-- ==== Sys2Proof/Word.lean ====
section
/-! DEFINITION. The words the bridge handles as bits: bytes, check values, counters. -/

namespace Sys2Proof

/-- A data byte of a character, an address, a slot number, a code (R2, R3). -/
abbrev Byte := BitVec 8

/-- A 16-bit check value (R4). -/
abbrev Check := BitVec 16

/-- An unsigned count of 0 to 4 294 967 295 (R84, R100). -/
abbrev Count := BitVec 32

/-- The unsigned value of a two-byte quantity, its more significant byte first (00_scope.md, 1.5). -/
def word (hi lo : Byte) : Nat := 256 * hi.toNat + lo.toNat

end Sys2Proof
end

