-- ==== Sys2Proof/Config.lean ====
section
/-! DEFINITION. What the part fixes: capacities, durations, defaults. The spec leaves no value free, so no constant here is without a body. -/

namespace Sys2Proof.Config

/-- The pool holds 32 telegram buffers (R70). -/
abbrev poolSize : Nat := 32

/-- An egress queue holds at most 12 entries (R77). -/
def queueCapacity : Nat := 12

/-- The default management address (R12, R139). -/
def defaultAddress : Byte := 253

/-- After this many mismatches UNLOCK is barred (R148). -/
def unlockLimit : Nat := 3

/-- The clock counts parts of a microsecond, 192 of them, the largest unit of which every bit rate's sample is a whole number (R1,
R14). DESIGN CHOICE (log entry 3). -/
def ticksPerMicro : Nat := 192

/-- The idle gap in samples: 12 bit times of 8 (R6, R18). -/
def idleGapSamples : Nat := 96

/-- The stuck line in samples: 256 bit times of 8 (R10, R18). -/
def stuckSamples : Nat := 2048

/-- A PROGRAM or RETIRE that opens its segment takes 70 µs (R132). -/
def openingMicros : Nat := 70

/-- A PROGRAM or RETIRE that continues an open segment takes 30 µs (R132). -/
def continuationMicros : Nat := 30

/-- ERASE SEGMENT takes 24 ms (R132). -/
def eraseSegmentMicros : Nat := 24000

/-- Each segment of ERASE ALL and WIPE takes 7.5 ms (R132, R136). -/
def eraseStepMicros : Nat := 7500

/-- BLANK CHECK takes 3 ms (R132). -/
def blankCheckMicros : Nat := 3000

/-- A break sent on request lasts 16 bit times (R53). -/
def breakBits : Nat := 16

/-- The retry limit of the default profile (R140). -/
def defaultRetryLimit : Nat := 8

/-- The hold limit of the default profile, in ms (R140). -/
def defaultHoldLimit : Nat := 100

/-- The telegram time limit of the default profile, in bit times (R140). -/
def defaultTimeLimit : Nat := 800

end Sys2Proof.Config
end

