-- ==== Sys2Proof/Syntax.lean ====
section
/-! DEFINITION. The commands of the bridge: one constructor of Instr per row of spec/opcode_table.json. -/

namespace Sys2Proof

/-- The three ports (00_scope.md, 1.5). -/
inductive Port
  | a | b | c
  deriving DecidableEq, Repr

/-- The two levels of the line: dominant is 0, recessive is 1 (00_scope.md, 1.5). -/
inductive Level
  | dominant | recessive
  deriving DecidableEq, Repr

/-- A character as the receiver delivers it (R18): its mark bit, its data byte, its noise mark, and whether its stop bit was
decided dominant. -/
structure Character where
  mark : Bool
  data : Byte
  noisy : Bool := false
  framing : Bool := false
  deriving DecidableEq, Repr

/-- A character at a port: as delivered, or as the samples it is decided from, from sample 1 of its start bit, or with a candidate start
bit standing from sample 2 of it, up to the sample that decides its stop bit (R14 to R18). -/
inductive Reception
  | delivered (char : Character)
  | sampled (levels : List Level)
  deriving DecidableEq, Repr

/-- A character of another port whose request to the pool is taken between the two requests of R30. -/
structure Rival where
  port : Port
  char : Character
  deriving DecidableEq, Repr

/-- A stretch of one level on the line of a port, with its length in samples so far (R18). -/
structure Stretch where
  port : Port
  samples : Nat
  deriving DecidableEq, Repr

/-- A candidate start bit found at a port (R14): the recessive samples in a row that its first dominant sample follows, and how many of
them the recessive period of R6 counts, which after a character leaves out those of its stop bit. -/
structure StartFound where
  port : Port
  recessives : Nat
  rest : Nat
  deriving DecidableEq, Repr

/-- The two orders in which the deliveries of a stuck line may be taken (R58). -/
inductive StuckOrder
  | blocksFirst | faultFirst
  deriving DecidableEq, Repr

/-- What an egress entry names: a pool buffer, or the Reply Buffer (R78). -/
inductive BufferRef
  | pool (i : Fin Config.poolSize)
  | reply
  deriving DecidableEq, Repr

/-- The two default bit rates that the RATE strap selects (R141). -/
inductive RateStrap
  | rate19200 | rate62500
  deriving DecidableEq, Repr

/-- The three straps (R141). MAINT is none or a port. -/
structure Straps where
  maint : Option Port
  rate : RateStrap
  lre : Bool
  deriving DecidableEq, Repr

/-- An image of 18 bytes (R122, 11.4). -/
abbrev Image := Vector Byte 18

/-- An access code of 8 bytes (R148). -/
abbrev AccessCode := Vector Byte 8

/-- The commands. A management command carries what R106 hands over beside its payload: the ingress port and the source
address. Argument bytes of management commands are raw, since the bridge decides what they name (R162). -/
inductive Instr
  /-- CHARACTER_RECEIVED (R18). -/
  | characterReceived (port : Port) (reception : Reception) (rival : Option Rival)
  /-- IDLE_GAP (R6): the port, and the length that its recessive period has reached. -/
  | idleGap (rest : Stretch)
  /-- SHORT_BREAK (R11): the run's length in samples. -/
  | shortBreak (port : Port) (samples : Nat)
  /-- LONG_BREAK (R34): the run's length in samples. -/
  | longBreak (port : Port) (samples : Nat)
  /-- STUCK_LINE (R58): the port, the length that its dominant run has reached (R10), and which delivery is taken first. -/
  | stuckLine (run : Stretch) (order : StuckOrder)
  /-- TELEGRAM_TIME_LIMIT_EXPIRY (R33). -/
  | telegramTimeLimitExpiry (port : Port)
  /-- ARBITRATION_LOST (R42). -/
  | arbitrationLost (port : Port)
  /-- COLLISION (R43). -/
  | collision (port : Port)
  /-- DRIVE_FAULT (R45). -/
  | driveFault (port : Port)
  /-- ATTEMPT_COMPLETION (R47). -/
  | attemptCompletion (port : Port)
  /-- BREAK_END (R53). -/
  | breakEnd (port : Port)
  /-- ENTRY_DEADLINE_EXPIRY (R50): the entry is named by the buffer it names, which no other entry of the queue names (R77). -/
  | entryDeadlineExpiry (port : Port) (ref : BufferRef)
  /-- DEADLINE_EXPIRY_DURING_ATTEMPT (R51). -/
  | deadlineExpiryDuringAttempt (port : Port)
  /-- CLASSIFICATION (R103). -/
  | classification
  /-- STATUS (R155). -/
  | status (ingress : Port) (source : Byte)
  /-- READ_ENTRY (R101). -/
  | readEntry (ingress : Port) (source : Byte) (slot : Byte)
  /-- READ_PORT_COUNTERS (R85). -/
  | readPortCounters (ingress : Port) (source : Byte) (port group : Byte)
  /-- CLEAR_COUNTERS (R86). -/
  | clearCounters (ingress : Port) (source : Byte) (port : Byte)
  /-- STAGE (R122). -/
  | stage (ingress : Port) (source : Byte) (target : Byte) (image : Option Image)
  /-- PROGRAM (R123). -/
  | program (ingress : Port) (source : Byte) (echo : Byte)
  /-- RETIRE (R123). -/
  | retire (ingress : Port) (source : Byte) (echo : Byte)
  /-- ERASE_SEGMENT (R123). -/
  | eraseSegment (ingress : Port) (source : Byte) (echo : Byte)
  /-- ERASE_ALL (R123). -/
  | eraseAll (ingress : Port) (source : Byte) (echo : Byte)
  /-- WIPE (R136). -/
  | wipe (ingress : Port) (source : Byte) (echo : Byte)
  /-- BLANK_CHECK (R128). -/
  | blankCheck (ingress : Port) (source : Byte) (echo : Byte)
  /-- ABORT_STAGE (R130). -/
  | abortStage (ingress : Port) (source : Byte)
  /-- CLEAR_STORE_FLAGS (R131). -/
  | clearStoreFlags (ingress : Port) (source : Byte)
  /-- RAISE_PROTECTION (R146). -/
  | raiseProtection (ingress : Port) (source : Byte) (segment : Byte)
  /-- UNLOCK (R148). -/
  | unlock (ingress : Port) (source : Byte) (code : AccessCode)
  /-- RESTORE (R66). -/
  | restore (ingress : Port) (source : Byte) (port : Byte)
  /-- DISABLE (R67). -/
  | disable (ingress : Port) (source : Byte) (port : Byte)
  /-- ENABLE (R68). -/
  | enable (ingress : Port) (source : Byte) (port : Byte)
  /-- SEND_BREAK (R52). -/
  | sendBreak (ingress : Port) (source : Byte) (port : Byte)
  /-- RESTART (R158). -/
  | restart (ingress : Port) (source : Byte)
  /-- UNKNOWN_COMMAND (R152): the whole payload. -/
  | unknownCommand (ingress : Port) (source : Byte) (payload : List Byte)
  /-- PROGRAM_COMPLETION (R133). -/
  | programCompletion
  /-- RETIRE_COMPLETION (R134). -/
  | retireCompletion
  /-- ERASE_SEGMENT_COMPLETION (R135). -/
  | eraseSegmentCompletion
  /-- SEGMENT_ERASE_STEP (R136). -/
  | segmentEraseStep
  /-- BLANK_CHECK_COMPLETION (R137). -/
  | blankCheckCompletion
  /-- RESTART_RESET (R159). -/
  | restartReset
  /-- POWER_ON (R142). -/
  | powerOn
  /-- RESET_PIN (R142). -/
  | resetPin
  /-- START_UP (R144): the strap inputs as they stand at the end of the reset (R141). -/
  | startUp (straps : Straps)
  /-- CANDIDATE_START_BIT (R14): the port, and the recessive samples that the dominant sample follows. -/
  | candidateStartBit (found : StartFound)
  /-- FALSE_START (R15): samples 2, 3 and 4 of the candidate. -/
  | falseStart (port : Port) (second third fourth : Level)
  /-- STUCK_RUN_END (R10). -/
  | stuckRunEnd (port : Port)
  /-- EXECUTE_UNKNOWN_OPERATION (R123). -/
  | executeUnknownOperation (ingress : Port) (source : Byte) (operation echo : Byte)
  /-- PORT_CONTROL_UNKNOWN_ACTION (R65). -/
  | portControlUnknownAction (ingress : Port) (source : Byte) (port action : Byte)
  deriving DecidableEq, Repr

end Sys2Proof
end

