-- ==== Sys2Proof/Decode.lean ====
section
/-! DEFINITION. The command that a word spells by the bits of the opcode table. -/

namespace Sys2Proof

/-- No row of spec/opcode_table.json gives its command any bits (every row's "fields" is empty), so no word spells a command (log
entry 1). Command payloads have bytes; Machine/Operands.lean reads those. -/
def decodeTableWord (_nbits _w : Nat) : Option Instr := none

end Sys2Proof
end

