-- ==== Sys2Proof/Machine/Records.lean ====
section
/-! DEFINITION. The records the spec describes by named fields: sets of ports, telegrams, port profiles, route entries, management commands and results. -/

namespace Sys2Proof.Machine

/-- One value for each port. -/
structure PerPort (α : Type) where
  a : α
  b : α
  c : α
  deriving DecidableEq, Repr

/-- The value of one port. -/
def PerPort.get {α : Type} (t : PerPort α) : Port → α
  | .a => t.a
  | .b => t.b
  | .c => t.c

/-- The value of one port replaced. -/
def PerPort.set {α : Type} (t : PerPort α) (p : Port) (x : α) : PerPort α :=
  match p with
  | .a => { t with a := x }
  | .b => { t with b := x }
  | .c => { t with c := x }

/-- The same value on each port. -/
def PerPort.all {α : Type} (x : α) : PerPort α := ⟨x, x, x⟩

/-- A set of ports (00_scope.md, 1.5): whether each port belongs to it. -/
abbrev PortSet := PerPort Bool

/-- The empty set {}. -/
def PortSet.empty : PortSet := PerPort.all false

/-- A telegram without its check value (R3, R70): destination, source, the class and length byte, the payload. -/
structure Telegram where
  destination : Byte
  source : Byte
  control : Byte
  payload : List Byte
  deriving DecidableEq, Repr

/-- A telegram that holds nothing yet. -/
def Telegram.empty : Telegram := ⟨0, 0, 0, []⟩

/-- The class: the upper three bits of character 3 (R3). -/
def Telegram.cls (t : Telegram) : Nat := t.control.toNat / 32

/-- The payload length L: the lower five bits of character 3 (R3). -/
def Telegram.length (t : Telegram) : Nat := t.control.toNat % 32

/-- The five permitted bit rates (R1). -/
inductive BitRate
  | r9600 | r19200 | r38400 | r62500 | r125000
  deriving DecidableEq, Repr

/-- Bits per second. -/
def BitRate.hertz : BitRate → Nat
  | .r9600 => 9600
  | .r19200 => 19200
  | .r38400 => 38400
  | .r62500 => 62500
  | .r125000 => 125000

/-- One sample, an eighth of a bit time, in ticks of the clock (R1, R14). -/
def BitRate.sampleTicks : BitRate → Nat
  | .r9600 => 2500
  | .r19200 => 1250
  | .r38400 => 625
  | .r62500 => 384
  | .r125000 => 192

/-- The noise policy of a port (R140). -/
inductive NoisePolicy
  | accept | drop
  deriving DecidableEq, Repr

/-- A port profile (R140): hold limit in ms, telegram time limit in bit times. -/
structure Profile where
  enabled : Bool
  rate : BitRate
  noise : NoisePolicy
  retryLimit : Nat
  holdLimit : Nat
  timeLimit : Nat
  defaultAction : PortSet
  deriving DecidableEq, Repr

/-- The default profile (R140): its bit rate is the one the RATE strap selects. -/
def Profile.default (rate : RateStrap) : Profile where
  enabled := true
  rate := match rate with
    | .rate19200 => .r19200
    | .rate62500 => .r62500
  noise := .accept
  retryLimit := Config.defaultRetryLimit
  holdLimit := Config.defaultHoldLimit
  timeLimit := Config.defaultTimeLimit
  defaultAction := PortSet.empty

/-- The width of a tested field (R93). -/
inductive Width
  | byte | word
  deriving DecidableEq, Repr

/-- Bytes of a field: 1 for BYTE, 2 for WORD (R93, R109). -/
def Width.bytes : Width → Nat
  | .byte => 1
  | .word => 2

/-- 256 for BYTE, 65536 for WORD (R109, R117). -/
def Width.modulus : Width → Int
  | .byte => 256
  | .word => 65536

/-- The false action of an entry with a field test (R94). -/
inductive FalseAction
  | continue | drop | default
  deriving DecidableEq, Repr

/-- The condition mask (R93). -/
structure Condition where
  lt : Bool
  eq : Bool
  gt : Bool
  beyond : Bool
  deriving DecidableEq, Repr

/-- The field test of a route entry (R93), with the false action that is present exactly when the test is (R94). -/
structure FieldTest where
  offset : Nat
  width : Width
  signed : Bool
  reference : Int
  band : Nat
  condition : Condition
  falseAction : FalseAction
  deriving DecidableEq, Repr

/-- The overflow policy of an adjustment (R94). -/
inductive Overflow
  | wrap | clamp | drop
  deriving DecidableEq, Repr

/-- An adjustment (R94). -/
structure Adjustment where
  amount : Int
  policy : Overflow
  deriving DecidableEq, Repr

/-- A match of an address: value and mask (R92). -/
structure AddressMatch where
  value : Byte
  mask : Byte
  deriving DecidableEq, Repr

/-- A route entry (R92 to R94). A class match of none is ANY. -/
structure RouteEntry where
  ingress : PortSet
  destination : AddressMatch
  source : AddressMatch
  cls : Option Nat
  test : Option FieldTest
  forward : PortSet
  rewrite : Option Byte
  adjust : Option Adjustment
  deriving DecidableEq, Repr

/-- The six operations that EXECUTE may name (R120). -/
inductive Operation
  | program | retire | eraseSegment | eraseAll | wipe | blankCheck
  deriving DecidableEq, Repr

/-- The three actions of PORT CONTROL (4.7). -/
inductive Action
  | restore | disable | enable
  deriving DecidableEq, Repr

/-- A management command as the Management Unit reads it from a payload at step 1 of R152, its argument bytes still raw (R162).
`bad` is a payload refused there, with the code byte that its reply echoes (R153). -/
inductive MgmtCommand
  | status
  | readEntry (slot : Byte)
  | readPortCounters (port group : Byte)
  | clearCounters (port : Byte)
  | stage (target : Byte) (image : Option Image)
  | execute (operation echo : Byte)
  | abortStage
  | clearStoreFlags
  | raiseProtection (segment : Byte)
  | unlock (code : AccessCode)
  | portControl (port action : Byte)
  | sendBreak (port : Byte)
  | restart
  | bad (code : Byte)
  deriving DecidableEq, Repr

/-- The results a reply can carry (10.3). -/
inductive Result
  | ok | badCommand | badArgument | locked | storeFlags | accessError | formatError | protectViolation
  | keyMismatch | keyBarred | portState
  deriving DecidableEq, Repr

end Sys2Proof.Machine
end

