-- ==== Sys2Proof/Machine/State.lean ====
section
/-! DEFINITION. The bridge's state as plain data, and the state after reset. -/

namespace Sys2Proof.Machine

/-! ## A port -/

/-- The port states (R56). -/
inductive PortMode
  | running | recovering | isolated | off
  deriving DecidableEq, Repr

/-- The telegram record of a receiver in FILLING (R19). The check value's more significant byte is held as it arrives; the less
significant one completes the telegram in the same event (R22). -/
structure RxRecord where
  buffer : Fin Config.poolSize
  position : Nat
  expected : Option Nat
  crc : Check
  checkHigh : Option Byte
  noise : Bool
  own : Bool
  /-- The moment of the header's start bit, from which the telegram time limit is counted (R57). -/
  limitFrom : Nat
  deriving DecidableEq, Repr

/-- The receiver states; the telegram record exists in FILLING only (R19). -/
inductive RxState
  | search
  | filling (rec : RxRecord)
  | skip
  | deaf
  deriving DecidableEq, Repr

/-- A candidate start bit, or the character it began (R14, R17): its first moment, and whether it is the start bit with which
the port's own attempt began (R23). -/
structure StartBit where
  moment : Nat
  own : Bool
  deriving DecidableEq, Repr

/-- A measurement of the line in samples (R18): those that a row told of, taken up to a moment, and from then on those that pass with
the clock. A moment still to come is the end of a stop bit (R5). -/
structure Measure where
  since : Nat
  taken : Nat
  deriving DecidableEq, Repr

/-- The receiver's measurements of its line: whether the line is idle (R6); the recessive period (R5, R6), which is measured while
the line is recessive; the dominant run (R10), which is measured while it is dominant; the recessive samples in a row that start
search has seen (R14); whether the run in progress has been declared stuck (R10). Where both levels are measured no row has told yet
which the line has (log entry 12), and where neither is, the line is open and the bridge has begun to drive it (log entry 19). -/
structure LineView where
  idle : Bool
  rest : Option Measure
  run : Option Measure
  search : Option Measure
  stuck : Bool
  deriving DecidableEq, Repr

/-- The attempt record (R37). The entry being sent is the head of the queue; the record names its buffer. -/
structure Attempt where
  entry : BufferRef
  character : Nat
  check : Check
  expired : Bool
  completed : Bool
  deriving DecidableEq, Repr

/-- The transmitter states; the attempt record is non-empty in ARBITRATING and SENDING only (R37). BREAKING carries the moment
its break began (R53). -/
inductive TxState
  | idle
  | waitGap
  | arbitrating (attempt : Attempt)
  | sending (attempt : Attempt)
  | breaking (since : Nat)
  | halted
  deriving DecidableEq, Repr

/-- An egress entry (R78): what it names, its deadline as a moment of the clock, its failed-attempt count. -/
structure EgressEntry where
  ref : BufferRef
  deadline : Nat
  failed : Nat
  deriving DecidableEq, Repr

/-- The 18 counters of a port (5.6). -/
inductive CounterName
  | rxGood | rxChecksum | rxNoisyDropped | rxBroken | rxTimeout | rxNoBuffer
  | dropRoute | dropOverflow | busySkips | mgmtBusy | txDone | txArbLost
  | txCollision | dropRetry | dropStale | dropQueueFull | dropPortClosed | faults
  deriving DecidableEq, Repr

/-- The 18 counter values, group after group in place order (5.6). -/
abbrev Counters := Vector Count 18

/-- All counters at 0 (R84). -/
def Counters.zero : Counters := Vector.replicate 18 0

/-- A line port: supervisor, receiver, transmitter, egress queue, working profile, counters. -/
structure LinePort where
  mode : PortMode
  rx : RxState
  candidate : Option StartBit
  /-- The attempt's start bit has been driven and start search has not met it yet (R23). -/
  ownStart : Bool
  line : LineView
  tx : TxState
  breakPending : Bool
  queue : List EgressEntry
  profile : Profile
  counters : Counters
  deriving DecidableEq, Repr

/-! ## The pool -/

/-- The state of a buffer with the fields that are present in it (R70). -/
inductive Claim
  | free
  | filling (owner : Port)
  | waiting (ingress : Port)
  | held (ingress : Port) (refs : Nat)
  deriving DecidableEq, Repr

/-- A pool buffer (R70). -/
structure Buffer where
  claim : Claim
  telegram : Telegram
  deriving DecidableEq, Repr

/-! ## The Route Store and its controller -/

/-- A slot's own state and record (R89). A TORN slot's record is not readable. -/
inductive Slot
  | blank
  | written (image : Image)
  | retired (image : Image)
  | torn
  deriving DecidableEq, Repr

/-- The Route Store (R88): 256 slots and 16 segment marks. -/
structure RouteStore where
  slots : Vector Slot 256
  marks : Vector Bool 16
  deriving DecidableEq, Repr

/-- A store segment number. -/
abbrev Segment := Fin 16

/-- A staged record (R120). -/
structure Staged where
  target : Byte
  image : Option Image
  deriving DecidableEq, Repr

/-- A launched PROGRAM or RETIRE with its slot (R120). -/
inductive SlotWork
  | program (slot : Byte) (image : Image)
  | retire (slot : Byte)
  deriving DecidableEq, Repr

/-- A launched operation with its target (R120); ERASE ALL and WIPE carry the segment being erased. -/
inductive Work
  | slot (work : SlotWork)
  | eraseSegment (segment : Segment)
  | eraseAll (target : Byte) (current : Segment)
  | wipe (target : Byte) (current : Segment)
  | blankCheck (target : Byte)
  deriving DecidableEq, Repr

/-- A running operation (R120, R132): its start time; the moment from which the duration in progress is measured, which for ERASE
ALL and WIPE is the start of the segment being erased and for the others the start time; whether it started as a continuation of an
open segment. -/
structure Running where
  work : Work
  start : Nat
  since : Nat
  continued : Bool
  deriving DecidableEq, Repr

/-- BLANK_RESULT (R120). -/
inductive BlankResult
  | none | blank | notBlank
  deriving DecidableEq, Repr

/-- The Store Controller (R120), with the QUARANTINED set it keeps from start-up (R91). A boundary of none is NONE. -/
structure StoreController where
  staged : Option Staged
  running : Option Running
  waiting : Option SlotWork
  openSegment : Option Segment
  accessError : Bool
  protectViolation : Bool
  formatError : Bool
  blankResult : BlankResult
  boundary : Option Segment
  quarantined : Vector Bool 16
  deriving DecidableEq, Repr

/-! ## The Management Unit and the Reset Controller -/

/-- The unit states (R151). -/
inductive UnitState
  | idle | replyPending
  deriving DecidableEq, Repr

/-- The access level (R147). -/
inductive AccessLevel
  | locked | open
  deriving DecidableEq, Repr

/-- The Management Unit (R151). A Reply Buffer of none is EMPTY. -/
structure ManagementUnit where
  unit : UnitState
  reply : Option Telegram
  replyPort : Option Port
  restartMark : Bool
  level : AccessLevel
  code : Option AccessCode
  failed : Nat
  deriving DecidableEq, Repr

/-- The reset causes; the line reset port is present with LINE_RESET only (R142, R143). -/
inductive Cause
  | powerOn | resetPin
  | lineReset (port : Port)
  | restart
  deriving DecidableEq, Repr

/-- The Reset Record (R143). -/
structure ResetRecord where
  cause : Cause
  count : Byte
  deriving DecidableEq, Repr

/-- Whether the bridge is held in reset or has ended its start-up (R142, R144). -/
inductive Phase
  | inReset | started
  deriving DecidableEq, Repr

/-! ## The whole bridge -/

/-- The state of the bridge, and the commands that wait for it. -/
structure State where
  phase : Phase
  /-- Ticks passed, 192 to a microsecond, the scale of every moment the state holds. DESIGN CHOICE (log entry 3). -/
  clock : Nat
  ports : PerPort LinePort
  pool : Vector Buffer Config.poolSize
  classQueue : List (Fin Config.poolSize)
  hits : Vector Count 240
  store : RouteStore
  ctrl : StoreController
  mgmt : ManagementUnit
  /-- The working management address (R12, R139). -/
  address : Byte
  straps : Straps
  record : ResetRecord
  pending : List Instr
  deriving DecidableEq, Repr

/-- Why the bridge would stop. Nothing raises one: the spec gives every event an effect, or none, in every state (log entry 4). -/
inductive Fault
  deriving DecidableEq, Repr

/-- Why a command has no meaning. -/
inductive Refusal
  /-- Raised by an arm of exec that has no meaning yet; no arm raises it. Safe. -/
  | notModelled (mnemonic : String)
  deriving DecidableEq, Repr

/-- A line just opened: not idle, the recessive period and the dominant run measured from this moment, whichever level the line has,
and no recessive sample seen by start search until a row tells of one (R6, R10, R14, R36). -/
def LineView.fresh (now : Nat) : LineView := ⟨false, some ⟨now, 0⟩, some ⟨now, 0⟩, none, false⟩

/-- A line that is not measured (R35). -/
def LineView.unmeasured : LineView := ⟨false, none, none, none, false⟩

/-- A line that has been recessive, and is not idle, for the given number of samples (R6, R14). -/
def LineView.recessiveFor (now samples : Nat) : LineView := ⟨false, some ⟨now, samples⟩, none, some ⟨now, samples⟩, false⟩

/-- A line that has been dominant for the given number of samples (R10). -/
def LineView.dominantFor (now samples : Nat) : LineView := ⟨false, none, some ⟨now, samples⟩, none, false⟩

/-- A port as start-up leaves it with a given working profile (R19, R37, R56, R77, R84). -/
def LinePort.started (profile : Profile) (now : Nat) : LinePort where
  mode := if profile.enabled then .running else .off
  rx := if profile.enabled then .search else .deaf
  candidate := none
  ownStart := false
  line := if profile.enabled then LineView.fresh now else LineView.unmeasured
  tx := if profile.enabled then .idle else .halted
  breakPending := false
  queue := []
  profile := profile
  counters := Counters.zero

/-- The pool after a reset: every buffer FREE (R70). The bytes a FREE buffer holds are never read; DESIGN CHOICE zero (log
entry 8). -/
def emptyPool : Vector Buffer Config.poolSize := Vector.replicate Config.poolSize ⟨.free, Telegram.empty⟩

/-- The Store Controller's values after a reset, but for the boundary and the quarantine (R120). -/
def StoreController.reset (boundary : Option Segment) (quarantined : Vector Bool 16) : StoreController where
  staged := none
  running := none
  waiting := none
  openSegment := none
  accessError := false
  protectViolation := false
  formatError := false
  blankResult := .none
  boundary := boundary
  quarantined := quarantined

/-- The Management Unit's values after a reset: LOCKED exactly when there is a working access code (R147, R151). -/
def ManagementUnit.reset (code : Option AccessCode) : ManagementUnit where
  unit := .idle
  reply := none
  replyPort := none
  restartMark := false
  level := if code.isSome then .locked else .open
  code := code
  failed := 0

/-- The Route Store as delivered: every mark present, every slot BLANK (R88). -/
def RouteStore.delivered : RouteStore := ⟨Vector.replicate 256 .blank, Vector.replicate 16 true⟩

/-- The strap inputs of State.reset. DESIGN CHOICE (log entry 7). -/
def Straps.assumed : Straps := ⟨none, .rate19200, false⟩

/-- The bridge as delivered, at the end of the start-up that follows its first power-on (R88, R139, R143, R144). -/
def State.reset : State where
  phase := .started
  clock := 0
  ports := PerPort.all (LinePort.started (Profile.default Straps.assumed.rate) 0)
  pool := emptyPool
  classQueue := []
  hits := Vector.replicate 240 0
  store := RouteStore.delivered
  ctrl := StoreController.reset none (Vector.replicate 16 false)
  mgmt := ManagementUnit.reset none
  address := Config.defaultAddress
  straps := Straps.assumed
  record := ⟨.powerOn, 0⟩
  pending := []

end Sys2Proof.Machine
end

