-- ==== Sys2Proof/Machine/Flags.lean ====
section
/-! DEFINITION. Counters, the store flags derived from the controller's state, and the code bytes of states and results. -/

namespace Sys2Proof.Machine

/-- A counter raised by one; at its maximum it stays (R84, R100). -/
def countUp (n : Count) : Count := if n = BitVec.allOnes 32 then n else n + 1

/-- A counter's place: six to a group, group after group (5.6). -/
def CounterName.place : CounterName → Fin 18
  | .rxGood => 0
  | .rxChecksum => 1
  | .rxNoisyDropped => 2
  | .rxBroken => 3
  | .rxTimeout => 4
  | .rxNoBuffer => 5
  | .dropRoute => 6
  | .dropOverflow => 7
  | .busySkips => 8
  | .mgmtBusy => 9
  | .txDone => 10
  | .txArbLost => 11
  | .txCollision => 12
  | .dropRetry => 13
  | .dropStale => 14
  | .dropQueueFull => 15
  | .dropPortClosed => 16
  | .faults => 17

/-- The value of a counter. -/
def Counters.read (v : Counters) (c : CounterName) : Count := v[c.place]

/-- One counter raised (R84). -/
def Counters.raise (v : Counters) (c : CounterName) : Counters := v.set c.place (countUp v[c.place])

/-- READY: no staged record and no waiting operation (R120). -/
def StoreController.ready (c : StoreController) : Bool := c.staged.isNone && c.waiting.isNone

/-- DONE: no operation running and none waiting (R120). -/
def StoreController.done (c : StoreController) : Bool := c.running.isNone && c.waiting.isNone

/-- Whether an error flag is pending (R129). -/
def StoreController.flagged (c : StoreController) : Bool := c.accessError || c.protectViolation || c.formatError

/-- The code of the controller state (R121, 11.3): 0 IDLE, 1 STAGED, 2 RUNNING, 3 RUNNING_STAGED, 4 RUNNING_QUEUED. -/
def StoreController.stateCode (c : StoreController) : Byte :=
  if c.waiting.isSome then 4
  else if c.running.isSome then (if c.staged.isSome then 3 else 2)
  else if c.staged.isSome then 1 else 0

/-- BLANK_RESULT in bits 6 and 5 of the store flags byte (11.3). -/
def BlankResult.code : BlankResult → Nat
  | .none => 0
  | .blank => 1
  | .notBlank => 2

/-- The store flags byte (11.3). -/
def StoreController.flagsByte (c : StoreController) : Byte :=
  BitVec.ofNat 8
    (c.ready.toNat + 2 * c.done.toNat + 4 * c.accessError.toNat + 8 * c.protectViolation.toNat
      + 16 * c.formatError.toNat + 32 * c.blankResult.code)

/-- The boundary byte (11.3): 0 to 15, or FFh for NONE. -/
def boundaryByte : Option Segment → Byte
  | none => 0xFF
  | some b => BitVec.ofNat 8 b.val

/-- The port state byte (11.3). -/
def PortMode.code : PortMode → Byte
  | .running => 0
  | .recovering => 1
  | .isolated => 2
  | .off => 3

/-- The port code (11.2). -/
def portCode : Port → Byte
  | .a => 0
  | .b => 1
  | .c => 2

/-- The access level byte (11.3). -/
def AccessLevel.code : AccessLevel → Byte
  | .open => 0
  | .locked => 1

/-- The MAINT byte (11.3). -/
def maintByte : Option Port → Byte
  | none => 0
  | some .a => 1
  | some .b => 2
  | some .c => 3

/-- The reset cause byte (11.3). -/
def Cause.code : Cause → Byte
  | .powerOn => 1
  | .resetPin => 2
  | .lineReset _ => 3
  | .restart => 4

/-- The line reset port byte (11.3): FFh when absent. -/
def Cause.portByte : Cause → Byte
  | .lineReset p => portCode p
  | .powerOn => 0xFF
  | .resetPin => 0xFF
  | .restart => 0xFF

/-- The slot state byte (11.3). -/
def Slot.code : Slot → Byte
  | .blank => 0
  | .written _ => 1
  | .retired _ => 2
  | .torn => 3

/-- The result byte (11.2). -/
def Result.code : Result → Byte
  | .ok => 0x00
  | .badCommand => 0x01
  | .badArgument => 0x02
  | .locked => 0x03
  | .storeFlags => 0x04
  | .accessError => 0x05
  | .formatError => 0x06
  | .protectViolation => 0x07
  | .keyMismatch => 0x08
  | .keyBarred => 0x09
  | .portState => 0x0A

/-- A two-byte quantity, more significant byte first (00_scope.md, 1.5). -/
def twoBytes (n : Nat) : List Byte := [BitVec.ofNat 8 (n / 256), BitVec.ofNat 8 n]

/-- A counter in four bytes, more significant byte first (11.3). -/
def countBytes (n : Count) : List Byte :=
  [n.extractLsb' 24 8, n.extractLsb' 16 8, n.extractLsb' 8 8, n.extractLsb' 0 8]

end Sys2Proof.Machine
end

