-- ==== Sys2Proof/Machine/Operands.lean ====
section
/-! DEFINITION. Reading operands: command payloads (11.2, R162) and images (11.4, R163). -/

namespace Sys2Proof.Machine

/-! ## Command payloads -/

/-- The payload lengths that suit each command code; a code that is absent names no command (11.2, R162). -/
def payloadLengths : Nat → List Nat
  | 0x01 => [1]
  | 0x02 => [2]
  | 0x03 => [3]
  | 0x04 => [2]
  | 0x10 => [2, 20]
  | 0x11 => [3]
  | 0x12 => [1]
  | 0x13 => [1]
  | 0x14 => [2]
  | 0x20 => [9]
  | 0x21 => [3]
  | 0x22 => [2]
  | 0x2F => [1]
  | _ => []

/-- Whether a payload passes step 1 of R152: its code is known and its length suits the code. -/
def payloadKnown : List Byte → Bool
  | [] => false
  | code :: args => (payloadLengths code.toNat).contains (args.length + 1)

/-- A list of exactly n bytes as a vector. -/
def vectorOf (n : Nat) (l : List Byte) : Option (Vector Byte n) :=
  if h : l.length = n then some ⟨l.toArray, by simpa using h⟩ else none

/-- The command of a code and its argument bytes; `bad` where code or length suits none (R152 step 1, R162). -/
def readCommand (code : Byte) (args : List Byte) : MgmtCommand :=
  match code.toNat, args with
  | 0x01, [] => .status
  | 0x02, [slot] => .readEntry slot
  | 0x03, [port, group] => .readPortCounters port group
  | 0x04, [port] => .clearCounters port
  | 0x10, [target] => .stage target none
  | 0x10, target :: image =>
    match vectorOf 18 image with
    | some v => .stage target (some v)
    | none => .bad code
  | 0x11, [operation, echo] => .execute operation echo
  | 0x12, [] => .abortStage
  | 0x13, [] => .clearStoreFlags
  | 0x14, [segment] => .raiseProtection segment
  | 0x20, bytes =>
    match vectorOf 8 bytes with
    | some v => .unlock v
    | none => .bad code
  | 0x21, [port, action] => .portControl port action
  | 0x22, [port] => .sendBreak port
  | 0x2F, [] => .restart
  | _, _ => .bad code

/-- Step 1 of R152: a payload read by the layout of 11.2. An empty payload is answered with code byte 0 (R153). -/
def decodePayload : List Byte → MgmtCommand
  | [] => .bad 0
  | code :: args => readCommand code args

/-- The code byte of a command, which its reply echoes (11.2, R153). -/
def MgmtCommand.code : MgmtCommand → Byte
  | .status => 0x01
  | .readEntry _ => 0x02
  | .readPortCounters _ _ => 0x03
  | .clearCounters _ => 0x04
  | .stage _ _ => 0x10
  | .execute _ _ => 0x11
  | .abortStage => 0x12
  | .clearStoreFlags => 0x13
  | .raiseProtection _ => 0x14
  | .unlock _ => 0x20
  | .portControl _ _ => 0x21
  | .sendBreak _ => 0x22
  | .restart => 0x2F
  | .bad code => code

/-- The port a byte names (11.2). -/
def portOf (b : Byte) : Option Port :=
  match b.toNat with
  | 0 => some .a
  | 1 => some .b
  | 2 => some .c
  | _ => none

/-- The operation a byte names (11.2). -/
def operationOf (b : Byte) : Option Operation :=
  match b.toNat with
  | 1 => some .program
  | 2 => some .retire
  | 3 => some .eraseSegment
  | 4 => some .eraseAll
  | 5 => some .wipe
  | 6 => some .blankCheck
  | _ => none

/-- The byte that names an operation (11.2). -/
def Operation.code : Operation → Byte
  | .program => 1
  | .retire => 2
  | .eraseSegment => 3
  | .eraseAll => 4
  | .wipe => 5
  | .blankCheck => 6

/-- The action a byte names (11.2). -/
def actionOf (b : Byte) : Option Action :=
  match b.toNat with
  | 1 => some .restore
  | 2 => some .disable
  | 3 => some .enable
  | _ => none

/-- The byte that names an action (11.2). -/
def Action.code : Action → Byte
  | .restore => 1
  | .disable => 2
  | .enable => 3

/-- The segment a byte names: 0 to 15 (11.2). -/
def segmentOf (b : Byte) : Option (Fin 16) := if h : b.toNat < 16 then some ⟨b.toNat, h⟩ else none

/-! ## Images -/

/-- A set of ports held in one byte: bit 0 A, bit 1 B, bit 2 C; the upper five bits are not read (chapter 11). -/
def portSetOf (b : Byte) : PortSet := ⟨b.getLsbD 0, b.getLsbD 1, b.getLsbD 2⟩

/-- Whether a set of ports is empty. -/
def PortSet.isEmpty (s : PortSet) : Bool := !(s.a || s.b || s.c)

/-- A set of ports without one port. -/
def PortSet.without (s : PortSet) (p : Port) : PortSet := PerPort.set s p false

/-- A two-byte quantity read as two's complement. -/
def signedWord (hi lo : Byte) : Int := if hi.toNat < 128 then (word hi lo : Int) else (word hi lo : Int) - 65536

/-- The range of a field's width and sign (R93, R116): its lowest and its highest value. -/
def fieldRange (width : Width) (signed : Bool) : Int × Int :=
  if signed then (-(width.modulus / 2), width.modulus / 2 - 1) else (0, width.modulus - 1)

/-- Whether a value lies in the range of a width and sign. -/
def inFieldRange (width : Width) (signed : Bool) (v : Int) : Bool :=
  decide ((fieldRange width signed).1 ≤ v) && decide (v ≤ (fieldRange width signed).2)

/-- A class match byte: 0 to 7, or FFh for ANY; none where it names no value (11.4, R163). The inner none is ANY. -/
def classMatchOf (b : Byte) : Option (Option Nat) :=
  if b = 0xFF then some none else if b.toNat ≤ 7 then some (some b.toNat) else none

/-- The false action of bits 5 and 4 of byte 18 (11.4). -/
def falseActionOf (b : Byte) : Option FalseAction :=
  match b.toNat / 16 % 4 with
  | 1 => some .continue
  | 2 => some .drop
  | 3 => some .default
  | _ => none

/-- The overflow policy of bits 1 and 0 of byte 18 (11.4). -/
def overflowOf (b : Byte) : Option Overflow :=
  match b.toNat % 4 with
  | 0 => some .wrap
  | 1 => some .clamp
  | 2 => some .drop
  | _ => none

/-- The condition mask of bits 3 to 0 of byte 8 (11.4). -/
def conditionOf (b : Byte) : Condition := ⟨b.getLsbD 0, b.getLsbD 1, b.getLsbD 2, b.getLsbD 3⟩

/-- Whether a condition mask is empty. -/
def Condition.isEmpty (c : Condition) : Bool := !(c.lt || c.eq || c.gt || c.beyond)

/-- The field test of a route entry image whose test control says one is present, or none where a check of R125 or R163 fails.
Byte n of an image is at index n - 1. -/
def fieldTestOf (i : Image) : Option FieldTest :=
  let width : Width := if i[7].getLsbD 6 then .word else .byte
  let signed := i[7].getLsbD 5
  let reference : Int := if signed then signedWord i[9] i[10] else (word i[9] i[10] : Int)
  match falseActionOf i[17] with
  | none => none
  | some falseAction =>
    if i[7].getLsbD 4 || decide (31 < i[8].toNat + width.bytes) || (conditionOf i[7]).isEmpty
        || !inFieldRange width signed reference then none
    else some
      { offset := i[8].toNat, width := width, signed := signed, reference := reference
        band := word i[11] i[12], condition := conditionOf i[7], falseAction := falseAction }

/-- The adjustment of a route entry image, or none where its policy names no value (R163). -/
def adjustmentOf (i : Image) : Option Adjustment :=
  match overflowOf i[17] with
  | none => none
  | some policy => some { amount := signedWord i[15] i[16], policy := policy }

/-- A route entry image decoded by 11.4 under R163; none where a format check of R125 or R163 fails. -/
def decodeRoute (i : Image) : Option RouteEntry :=
  let entry (cls : Option Nat) (test : Option FieldTest) (adjust : Option Adjustment) : RouteEntry :=
    { ingress := portSetOf i[1]
      destination := ⟨i[2], i[3]⟩
      source := ⟨i[4], i[5]⟩
      cls := cls
      test := test
      forward := portSetOf i[13]
      rewrite := if i[13].getLsbD 3 then some i[14] else none
      adjust := adjust }
  if i[0] ≠ 0x01 || (portSetOf i[1]).isEmpty then none
  else
    match classMatchOf i[6] with
    | none => none
    | some cls =>
      if i[7].getLsbD 7 then
        match fieldTestOf i with
        | none => none
        | some test =>
          if i[13].getLsbD 4 then
            match adjustmentOf i with
            | none => none
            | some adjust => some (entry cls (some test) (some adjust))
          else some (entry cls (some test) none)
      else if i[13].getLsbD 4 || (falseActionOf i[17]).isSome then none
      else some (entry cls none none)

/-- An identity image: its management address, 0 to 254 (R126, 11.4). -/
def decodeIdentity (i : Image) : Option Byte := if i[0] = 0x02 ∧ i[1] ≠ 255 then some i[1] else none

/-- A protection word image: NONE (the inner none) or a segment (R126, 11.4). -/
def decodeProtection (i : Image) : Option (Option (Fin 16)) :=
  if i[0] ≠ 0x03 then none
  else if i[1] = 0xFF then some none
  else (segmentOf i[1]).map some

/-- An access code image: bytes 2 to 9 (R126, 11.4). -/
def decodeAccessCode (i : Image) : Option AccessCode :=
  if i[0] = 0x04 then some #v[i[1], i[2], i[3], i[4], i[5], i[6], i[7], i[8]] else none

/-- The bit rate a code names (11.4). -/
def bitRateOf (b : Byte) : Option BitRate :=
  match b.toNat with
  | 1 => some .r9600
  | 2 => some .r19200
  | 3 => some .r38400
  | 4 => some .r62500
  | 5 => some .r125000
  | _ => none

/-- A port profile image (R126, R140, 11.4). -/
def decodeProfile (i : Image) : Option Profile :=
  match bitRateOf i[2] with
  | none => none
  | some rate =>
    if i[0] = 0x05 ∧ i[1].toNat ≤ 1 ∧ i[3].toNat ≤ 1 ∧ 1 ≤ i[4].toNat ∧ i[4].toNat ≤ 15
        ∧ 1 ≤ i[5].toNat ∧ i[5].toNat ≤ 250 ∧ 400 ≤ word i[6] i[7] ∧ word i[6] i[7] ≤ 2000 then
      some
        { enabled := i[1] = 1, rate := rate, noise := if i[3] = 0 then .accept else .drop
          retryLimit := i[4].toNat, holdLimit := i[5].toNat, timeLimit := word i[6] i[7]
          defaultAction := portSetOf i[8] }
    else none

/-- The format checks of a PROGRAM (R125, R126): the image is of the kind its slot holds, with a legal value in every field. -/
def imageSuits (slot : Byte) (i : Image) : Bool :=
  if slot.toNat < 240 then (decodeRoute i).isSome
  else if slot = 240 then (decodeIdentity i).isSome
  else if slot = 241 then (decodeProtection i).isSome
  else if slot = 242 then (decodeAccessCode i).isSome
  else if slot.toNat ≤ 245 then (decodeProfile i).isSome
  else false

end Sys2Proof.Machine
end

