-- ==== Sys2Proof/Machine/Framing.lean ====
section
/-! DEFINITION. What goes onto the line: the check value (R4), the characters of a telegram (R2, R3), the bits of a character, and the verdict on each bit read back (R41). -/

namespace Sys2Proof.Machine

/-! ## The check value -/

/-- One data bit taken into the CRC register (R4). -/
def crcBit (reg : Check) (bit : Bool) : Check :=
  if reg.msb != bit then (reg <<< 1) ^^^ 0x1021 else reg <<< 1

/-- The bits of a byte, the most significant first (R2, R4). -/
def byteBits (b : Byte) : List Bool :=
  [b.getLsbD 7, b.getLsbD 6, b.getLsbD 5, b.getLsbD 4, b.getLsbD 3, b.getLsbD 2, b.getLsbD 1, b.getLsbD 0]

/-- One data byte taken into the CRC register, most significant bit first (R4). -/
def crcByte (reg : Check) (b : Byte) : Check := (byteBits b).foldl crcBit reg

/-- The register's starting value (R4). -/
def crcStart : Check := 0xFFFF

/-- The check value of a sequence of data bytes (R4). -/
def crcOf (bytes : List Byte) : Check := bytes.foldl crcByte crcStart

/-- The more significant byte of a check value. -/
def checkHighByte (c : Check) : Byte := c.extractLsb' 8 8

/-- The less significant byte of a check value. -/
def checkLowByte (c : Check) : Byte := c.extractLsb' 0 8

/-! ## The telegram on the line -/

/-- The data bytes of characters 1 to 3 + L (R3, R40). -/
def Telegram.bytes (t : Telegram) : List Byte := t.destination :: t.source :: t.control :: t.payload.take t.length

/-- The check value computed for a telegram (R4, R40). -/
def Telegram.check (t : Telegram) : Check := crcOf t.bytes

/-- The number of characters, 5 + L (R3). -/
def Telegram.count (t : Telegram) : Nat := 5 + t.length

/-- The data bytes of all characters, the check value last, more significant byte first (R3, R40). -/
def Telegram.lineBytes (t : Telegram) (check : Check) : List Byte :=
  t.bytes ++ [checkHighByte check, checkLowByte check]

/-- Characters with mark bit 0. -/
def plainCharacters (bytes : List Byte) : List Character := bytes.map fun b => ⟨false, b, false, false⟩

/-- The characters an attempt sends (R40): the mark bit is 1 in the first one only (R2). -/
def Telegram.characters (t : Telegram) : List Character :=
  match t.lineBytes t.check with
  | [] => []
  | first :: rest => ⟨true, first, false, false⟩ :: plainCharacters rest

/-- The level of a bit: 0 is dominant, 1 recessive (R2). -/
def levelOf (bit : Bool) : Level := if bit then .recessive else .dominant

/-- The 11 bits of a character in the order they are sent: start, mark, data, stop (R2). -/
def characterLevels (mark : Bool) (data : Byte) : List Level :=
  (.dominant : Level) :: levelOf mark :: (byteBits data).map levelOf ++ [.recessive]

/-- The levels an attempt drives, bit time after bit time, with no rests between characters (R2, R40). -/
def Telegram.levels (t : Telegram) : List Level := t.characters.flatMap fun c => characterLevels c.mark c.data

/-! ## Reading back -/

/-- The verdict on one bit read back (R41). -/
inductive Verdict
  | good | arbitrationLost | collision | driveFault
  deriving DecidableEq, Repr

/-- Whether a bit of an attempt, counted from 0 at the first start bit, lies in the arbitration span: from the mark bit of
character 1 to the last data bit of character 2 (R41). -/
def inArbitrationSpan (bit : Nat) : Bool := decide (1 ≤ bit) && decide (bit ≤ 20)

/-- The verdict table of R41. -/
def readBackVerdict (bit : Nat) (sent read : Level) : Verdict :=
  match sent, read with
  | .dominant, .dominant => .good
  | .recessive, .recessive => .good
  | .recessive, .dominant => if inArbitrationSpan bit then .arbitrationLost else .collision
  | .dominant, .recessive => .driveFault

/-- The first verdict other than bit good that an attempt meets, with its bit, when the line carries the given levels (R41). None:
every bit is good and the attempt completes (R47). -/
def attemptVerdict (bit : Nat) : List Level → List Level → Option (Nat × Verdict)
  | sent :: sents, read :: reads =>
    match readBackVerdict bit sent read with
    | .good => attemptVerdict (bit + 1) sents reads
    | .arbitrationLost => some (bit, .arbitrationLost)
    | .collision => some (bit, .collision)
    | .driveFault => some (bit, .driveFault)
  | _, _ => none

/-- The level of a line that two senders drive: dominant whenever at least one drives it (00_scope.md, 1.5; R8). -/
def wiredAnd : Level → Level → Level
  | .recessive, .recessive => .recessive
  | .recessive, .dominant => .dominant
  | .dominant, .recessive => .dominant
  | .dominant, .dominant => .dominant

/-- The levels of a line on which two senders begin in the same bit time, as long as both have bits to send: each drives its levels
until it reads back another, and its side is recessive from then on (R8, R41). The two flags say who is still driving. -/
def sharedLine (firstDrives secondDrives : Bool) : List Level → List Level → List Level
  | x :: xs, y :: ys =>
    let read := wiredAnd (if firstDrives then x else .recessive) (if secondDrives then y else .recessive)
    read :: sharedLine (firstDrives && decide (read = x)) (secondDrives && decide (read = y)) xs ys
  | _, _ => []

/-! ## Dominant runs -/

/-- The classes of dominant runs (R10). -/
inductive RunClass
  | normalData | shortBreak | longBreak | stuck
  deriving DecidableEq, Repr

/-- The class of a run by its length in samples, eight to a bit time, rounded down (R10, R18). -/
def runClass (samples : Nat) : RunClass :=
  if samples / 8 < 11 then .normalData
  else if samples / 8 < 64 then .shortBreak
  else if samples / 8 < 256 then .longBreak
  else .stuck

end Sys2Proof.Machine
end

