-- ==== Sys2Proof/Machine/Sampling.lean ====
section
/-! DEFINITION. The lower level of the Line Receiver: from samples to characters (R14 to R18). -/

namespace Sys2Proof.Machine

/-- A character in reception (R17): the bit in progress (0 start, 1 mark, 2 to 9 data, 10 stop), the samples of it taken, those
of its samples 4, 5 and 6 taken so far, the last sample, the bits decided so far (the latest first), the noise mark. -/
structure CharProgress where
  bit : Nat
  taken : Nat
  window : List Level
  last : Level
  bits : List Bool
  noisy : Bool
  deriving DecidableEq, Repr

/-- Where the receiver stands between two samples: in start search with the recessive samples in a row it has seen (2 stands
for 2 or more), in a candidate start bit with the samples after its sample 1, or in a character (R14 to R17). -/
inductive SampleState
  | searching (recessives : Nat)
  | candidate (after : List Level)
  | character (progress : CharProgress)
  deriving DecidableEq, Repr

/-- What a sample may bring about at the lower level. -/
inductive SampleEvent
  | candidateStart
  | falseStart
  | delivered (char : Character)
  deriving DecidableEq, Repr

/-- The outcome of a candidate's samples 2 to 4 (R15). -/
inductive StartOutcome
  | confirmed (noisy : Bool)
  | dropped
  deriving DecidableEq, Repr

/-- The table of R15: three dominant samples confirm, two confirm as noisy, fewer drop the candidate. -/
def startOutcome : Level → Level → Level → StartOutcome
  | .dominant, .dominant, .dominant => .confirmed false
  | .dominant, .dominant, .recessive => .confirmed true
  | .dominant, .recessive, .dominant => .confirmed true
  | .recessive, .dominant, .dominant => .confirmed true
  | .recessive, .recessive, _ => .dropped
  | .recessive, .dominant, .recessive => .dropped
  | .dominant, .recessive, .recessive => .dropped

/-- One more sample seen in start search: recessive samples in a row, up to the two that R14 asks for. -/
def recessiveRow (row : Nat) : Level → Nat
  | .recessive => min 2 (row + 1)
  | .dominant => 0

/-- The majority of three samples as a bit: recessive is 1 (R16). -/
def majority (x y z : Level) : Bool :=
  (x = .recessive ∧ y = .recessive) ∨ (x = .recessive ∧ z = .recessive) ∨ (y = .recessive ∧ z = .recessive)

/-- Whether three samples are not all the same (R16). -/
def disagree (x y z : Level) : Bool := x ≠ y ∨ y ≠ z

/-- The value of data bits, the first the most significant. -/
def bitsValue (bits : List Bool) : Byte := BitVec.ofNat 8 (bits.foldl (fun n b => 2 * n + b.toNat) 0)

/-- The character that the mark bit, the eight data bits and the stop bit make, the latest bit first (R18). -/
def characterOfBits (bits : List Bool) (noisy : Bool) : Character :=
  match bits.reverse with
  | mark :: rest => ⟨mark, bitsValue (rest.take 8), noisy, !(rest.getD 8 true)⟩
  | [] => ⟨false, 0, noisy, true⟩

/-- Whether the bit in progress has been decided: the start bit at its sample 4, any other bit at its sample 6 (R16, R17). -/
def bitDecided (c : CharProgress) : Bool := if c.bit = 0 then true else decide (6 ≤ c.taken)

/-- The place of the next sample in a character (R17): an edge becomes sample 1 of the bit in progress, or of the next bit where
that bit has been decided; otherwise the samples of a bit are eight. Where a bit is begun anew its window is empty. -/
def placeSample (c : CharProgress) (x : Level) : CharProgress :=
  if c.last = .recessive ∧ x = .dominant then
    if bitDecided c then { c with bit := c.bit + 1, taken := 1, window := [], last := x }
    else { c with taken := 1, window := [], last := x }
  else if c.taken < 8 then
    { c with
      taken := c.taken + 1, last := x
      window := if 4 ≤ c.taken + 1 ∧ c.taken + 1 ≤ 6 then c.window ++ [x] else c.window }
  else { c with bit := c.bit + 1, taken := 1, window := [], last := x }

/-- A bit decided at its sample 6 (R16); the stop bit's decision ends the character (R18). Start search counts the samples 4, 5 and 6
of the stop bit as they were: after dominant, dominant, recessive, a framing error by the majority, sample 6 is the first of the two
recessive samples it asks for, although R18 has the line dominant there (DESIGN CHOICE, log entry 16). -/
def decideBit (c : CharProgress) : SampleState × Option SampleEvent :=
  match c.bit, c.taken, c.window with
  | bit + 1, 6, [x, y, z] =>
    let c' := { c with bits := majority x y z :: c.bits, noisy := c.noisy || disagree x y z }
    if bit + 1 = 10 then
      (.searching ([x, y, z].foldl recessiveRow 0), some (.delivered (characterOfBits c'.bits c'.noisy)))
    else (.character c', none)
  | _, _, _ => (.character c, none)

/-- One sample taken by the receiver (R14 to R18). The recessive samples that end a dropped candidate count for start search
(DEDUCED, log entry 9). -/
def takeSample (s : SampleState) (x : Level) : SampleState × Option SampleEvent :=
  match s with
  | .searching row =>
    if x = .dominant ∧ 2 ≤ row then (.candidate [], some .candidateStart) else (.searching (recessiveRow row x), none)
  | .candidate [second, third] =>
    match startOutcome second third x with
    | .confirmed noisy => (.character ⟨0, 4, [], x, [], noisy⟩, none)
    | .dropped => (.searching ([second, third, x].foldl recessiveRow 0), some .falseStart)
  | .candidate after => (.candidate (after ++ [x]), none)
  | .character c => decideBit (placeSample c x)

/-- The character that a row of samples decides with its last one, from where start search or the character stands (R14 to R18); none
where they decide none, decide one before the last of them, drop a candidate, or hold a sample that start search passes over: samples
before a start bit belong to the rest or to the run before it, which are rows of their own (R6, R10). -/
def characterOfSamples (s : SampleState) : List Level → Option Character
  | [] => none
  | x :: xs =>
    match takeSample s x with
    | (_, some (.delivered c)) => if xs.isEmpty then some c else none
    | (_, some .falseStart) => none
    | (s', some .candidateStart) => characterOfSamples s' xs
    | (.searching _, none) => none
    | (.candidate after, none) => characterOfSamples (.candidate after) xs
    | (.character c, none) => characterOfSamples (.character c) xs

/-- The samples of an undisturbed row of bits: eight samples to a bit time (R14). -/
def samplesOf (levels : List Level) : List Level := levels.flatMap fun x => List.replicate 8 x

/-- The samples of a character that is delivered undisturbed, to sample 6 of its stop bit, dominant for a framing error (R16, R18). -/
def nominalSamples (c : Character) : List Level :=
  (samplesOf ((characterLevels c.mark c.data).take 10 ++ [levelOf !c.framing])).take 86

/-- The samples at the end of a row that are all of one level. -/
def trailing (x : Level) (levels : List Level) : Nat := (levels.reverse.takeWhile (· = x)).length

end Sys2Proof.Machine
end

