-- ==== Sys2Proof/Machine/Ops.lean ====
section
/-! DEFINITION. The named operations that the meanings share: ports and counters, the pool, egress queues, the transmitter's beginnings and endings, opening and closing a port, faults, replies, the Route Store as it reads. -/

namespace Sys2Proof.Machine

/-- The outcome of a command: a next state, always (log entry 4). -/
abbrev Answer := Host.Outcome State Fault Refusal

/-- What happens on a started bridge alone. While the bridge is held in reset no event of its blocks can arise and nothing changes
(R142). -/
def ifStarted (f : State → State) (s : State) : State :=
  match s.phase with
  | .started => f s
  | .inReset => s

/-- A row that acts on a started bridge. -/
def whenStarted (f : State → State) (s : State) : Answer := .next (ifStarted f s)

/-! ## Ports and counters -/

/-- A port. -/
def State.port (s : State) (p : Port) : LinePort := s.ports.get p

/-- A port replaced. -/
def State.setPort (s : State) (p : Port) (x : LinePort) : State := { s with ports := s.ports.set p x }

/-- A counter of a port raised (R84). -/
def State.count (s : State) (p : Port) (c : CounterName) : State :=
  s.setPort p { s.port p with counters := (s.port p).counters.raise c }

/-- Whether a port is RUNNING or RECOVERING (R56). -/
def PortMode.isOpen : PortMode → Bool
  | .running => true
  | .recovering => true
  | .isolated => false
  | .off => false

/-- A row of one port that reaches it only while the port is open: a closed port is DEAF and HALTED (R35, R54). -/
def onOpenPort (p : Port) (f : State → State) (s : State) : State :=
  if (s.port p).mode.isOpen then f s else s

/-- What reaches a port of a started bridge while the port is open: the rest of an event whose first part may have reset the bridge or
closed the port. -/
def onLivePort (p : Port) (f : State → State) (s : State) : State := ifStarted (onOpenPort p f) s

/-- Whether a transmitter is driving its line: an attempt not yet completed, or a break (R45, R59). -/
def TxState.driving : TxState → Bool
  | .arbitrating a => !a.completed
  | .sending a => !a.completed
  | .breaking _ => true
  | .idle => false
  | .waitGap => false
  | .halted => false

/-! ## The line's measurements -/

/-- The length of a measurement in samples (R18): those told of, and those that have passed since. -/
def Measure.samples (rate : BitRate) (now : Nat) (m : Measure) : Nat := m.taken + (now - m.since) / rate.sampleTicks

/-- The length in samples of what a row tells of, at least what the state has measured of it. -/
def atLeastMeasured (rate : BitRate) (now told : Nat) : Option Measure → Nat
  | some m => max told (m.samples rate now)
  | none => told

/-- The recessive period of a port's line, at least the given number of samples (R5, R6). -/
def LinePort.restLength (x : LinePort) (now told : Nat) : Nat := atLeastMeasured x.profile.rate now told x.line.rest

/-- The dominant run of a port's line, at least the given number of samples (R10). -/
def LinePort.runLength (x : LinePort) (now told : Nat) : Nat := atLeastMeasured x.profile.rate now told x.line.run

/-- The recessive samples in a row that a port's start search has seen, at least the given number (R14). -/
def LinePort.searchLength (x : LinePort) (now told : Nat) : Nat := atLeastMeasured x.profile.rate now told x.line.search

/-- The length of a dominant run at its end (R10). Where no row has told yet which level the line has, the run may have begun after the
moment from which it is measured, and the row's length is the run's (log entry 12). -/
def LinePort.endedRun (x : LinePort) (now told : Nat) : Nat := if x.line.rest.isSome then told else x.runLength now told

/-- Whether the recessive period of a line that is known to be recessive, and not idle yet, has reached 12 bit times (R6). While the
bridge drives the line itself the event cannot reach its transmitter (the dash in the table of 3.8; R38). -/
def LinePort.gapReached (x : LinePort) (now : Nat) : Bool :=
  !x.line.idle && !x.tx.driving && x.line.run.isNone && decide (Config.idleGapSamples ≤ x.restLength now 0)

/-- Whether the recessive period before a dominant sample taken now had reached 12 bit times without its idle gap having been taken (R5,
R6): by the samples that the row of the dominant sample tells of, or, on a line known to be recessive, by those measured before it. -/
def LinePort.gapMissed (x : LinePort) (now told : Nat) : Bool :=
  !x.line.idle && !x.tx.driving
    && decide (Config.idleGapSamples ≤ if x.line.run.isNone then x.restLength (now - 1) told else told)

/-- The length of a dominant run that no row has told the end of, where a row tells that the line, known to be dominant and outside a
character, had turned recessive before the moment given (R10): what is measured up to that moment without the recessive samples that the
row tells of, and at least what rows have told of it. 0 where there is no such run, or one already declared stuck, which is not
classified again. -/
def LinePort.missedRun (x : LinePort) (upTo recessives : Nat) : Nat :=
  match x.line.run with
  | some k =>
    if x.candidate.isNone && x.line.rest.isNone && !x.line.stuck && decide (1 ≤ recessives) then
      max k.taken (k.samples x.profile.rate upTo - recessives)
    else 0
  | none => 0

/-- Whether the run of a line that is known to be dominant has reached 256 bit times and is not declared stuck yet (R10). -/
def LinePort.stuckReached (x : LinePort) (now : Nat) : Bool :=
  !x.line.stuck && x.line.rest.isNone && decide (runClass (x.runLength now 0) = .stuck)

/-! ## The pool -/

/-- A buffer of the pool. -/
def State.buffer (s : State) (i : Fin Config.poolSize) : Buffer := s.pool[i]

/-- A buffer replaced. -/
def State.setBuffer (s : State) (i : Fin Config.poolSize) (b : Buffer) : State := { s with pool := s.pool.set i b }

/-- A buffer returned to FREE: owner, ingress port and reference count are cleared (R72, R76). -/
def State.freeBuffer (s : State) (i : Fin Config.poolSize) : State :=
  s.setBuffer i { s.buffer i with claim := .free }

/-- The FREE buffer with the lowest number, if any (R71). -/
def State.freeIndex (s : State) : Option (Fin Config.poolSize) :=
  (List.finRange Config.poolSize).find? fun i => (s.buffer i).claim == .free

/-- The telegram that an egress entry names (R40, R78). -/
def State.telegramOf (s : State) : BufferRef → Telegram
  | .pool i => (s.buffer i).telegram
  | .reply => s.mgmt.reply.getD Telegram.empty

/-- An entry's reference released (R49): a pool buffer's count falls by one, and at zero the buffer is FREE; the Reply Buffer
becomes EMPTY and the Management Unit IDLE. -/
def State.release (s : State) : BufferRef → State
  | .pool i =>
    match (s.buffer i).claim with
    | .held ingress refs =>
      if refs ≤ 1 then s.freeBuffer i else s.setBuffer i { s.buffer i with claim := .held ingress (refs - 1) }
    | .free => s
    | .filling _ => s
    | .waiting _ => s
  | .reply => { s with mgmt := { s.mgmt with unit := .idle, reply := none, replyPort := none } }

/-! ## The transmitter's beginnings and endings -/

/-- Whether a transmitter has work (R37). -/
def LinePort.hasWork (x : LinePort) : Bool := x.breakPending || !x.queue.isEmpty

/-- The attempt record, if it is not empty (R37). -/
def TxState.attempt : TxState → Option Attempt
  | .arbitrating a => some a
  | .sending a => some a
  | .idle => none
  | .waitGap => none
  | .breaking _ => none
  | .halted => none

/-- A transmitter begins on an idle line (R39): a pending break first, else an attempt at the head entry, its check value
computed afresh (R40). The line turns dominant with its start bit: the idle period has ended and the recessive measurement stops
(R6; log entry 12). The run that begins is measured from its first dominant sample, which the candidate start bit's row tells of (R10,
R14); until a row tells, neither level is measured, and a drive fault begins the rest again (log entry 19). -/
def beginSending (p : Port) (s : State) : State :=
  let x := s.port p
  let busy := { x.line with idle := false, rest := none, run := none }
  if x.breakPending then
    s.setPort p { x with breakPending := false, tx := .breaking s.clock, ownStart := false, line := busy }
  else
    match x.queue with
    | [] => s
    | e :: _ =>
      s.setPort p
        { x with tx := .arbitrating ⟨e.ref, 1, (s.telegramOf e.ref).check, false, false⟩, ownStart := true, line := busy }

/-- Work appears (R38): a transmitter in IDLE begins at once on an idle line, or enters WAIT_GAP. -/
def workAppears (p : Port) (s : State) : State :=
  match (s.port p).tx with
  | .idle =>
    if (s.port p).line.idle then beginSending p s else s.setPort p { s.port p with tx := .waitGap }
  | .waitGap => s
  | .arbitrating _ => s
  | .sending _ => s
  | .breaking _ => s
  | .halted => s

/-- The transmitter at rest after an attempt or a break (R38): WAIT_GAP with work, IDLE without; the attempt record is empty. -/
def restTransmitter (p : Port) (s : State) : State :=
  s.setPort p { s.port p with tx := if (s.port p).hasWork then .waitGap else .idle, ownStart := false }

/-- The head entry leaves the queue and its reference is released (R49). -/
def removeHead (p : Port) (s : State) : State :=
  match (s.port p).queue with
  | [] => s
  | e :: rest => (s.setPort p { s.port p with queue := rest }).release e.ref

/-- The own-capture mark of a port's receiver cleared (R23). -/
def clearOwnMark (p : Port) (s : State) : State :=
  match (s.port p).rx with
  | .filling r => s.setPort p { s.port p with rx := .filling { r with own := false } }
  | .search => s
  | .skip => s
  | .deaf => s

/-- Whether the receiver holds a capture with its own-capture mark set (R47). -/
def RxState.holdsOwn : RxState → Bool
  | .filling r => r.own
  | .search => false
  | .skip => false
  | .deaf => false

/-- The echo verdict (R48): after a completed attempt it counts what the verdict counts and the entry leaves the head; before
completion it is ignored. -/
def echoVerdict (p : Port) (counted : Option CounterName) (s : State) : State :=
  match (s.port p).tx.attempt with
  | some a =>
    if a.completed then
      restTransmitter p (removeHead p (match counted with
        | some c => s.count p c
        | none => s))
    else s
  | none => s

/-- The entry whose deadline expired during an attempt that failed is removed as stale (R51). -/
def removeStale (p : Port) (s : State) : State := removeHead p (s.count p .dropStale)

/-- The head entry's failed-attempt count raised (R42, R43); at the retry limit the entry is removed with DROP_RETRY (R44). -/
def retryHead (p : Port) (s : State) : State :=
  match (s.port p).queue with
  | [] => s
  | e :: rest =>
    let raised := s.setPort p { s.port p with queue := { e with failed := e.failed + 1 } :: rest }
    if (s.port p).profile.retryLimit ≤ e.failed + 1 then removeHead p (raised.count p .dropRetry) else raised

/-- An attempt in progress ends with arbitration lost or a collision, counted (R42, R43). -/
def failAttempt (p : Port) (counted : CounterName) (a : Attempt) (s : State) : State :=
  let s' := clearOwnMark p (s.count p counted)
  restTransmitter p (if a.expired then removeStale p s' else retryHead p s')

/-- An attempt in progress ends without being counted (R45, R46). -/
def dropAttempt (p : Port) (a : Attempt) (s : State) : State :=
  let s' := clearOwnMark p s
  restTransmitter p (if a.expired then removeStale p s' else s')

/-- Whatever a transmitter is sending ends without being counted: an attempt not yet completed, or a break (R45, R46). -/
def endUncounted (p : Port) (s : State) : State :=
  match (s.port p).tx with
  | .arbitrating a => if a.completed then s else dropAttempt p a s
  | .sending a => if a.completed then s else dropAttempt p a s
  | .breaking _ => restTransmitter p s
  | .idle => s
  | .waitGap => s
  | .halted => s

/-! ## The receiver's abandonments -/

/-- The telegram in reception is aborted (R29 to R33): one counter, the buffer FREE, the receiver in its next state. A capture
that was the echo of a completed attempt settles that attempt with nothing counted (R48). R48 names only the framing error; that an
idle gap, a mark character, a break, a stuck line or the time limit settles it in the same way is the model's choice (DESIGN CHOICE,
log entry 17). -/
def abortReception (p : Port) (counted : CounterName) (next : RxState) (s : State) : State :=
  match (s.port p).rx with
  | .filling r =>
    let s' := (s.count p counted).freeBuffer r.buffer
    let s'' := s'.setPort p { s'.port p with rx := next }
    if r.own then echoVerdict p none s'' else s''
  | .search => s
  | .skip => s
  | .deaf => s

/-! ## Opening and closing a port -/

/-- The flush (R63): every entry is removed, its reference released, DROP_PORT_CLOSED counted. -/
def flush (p : Port) (s : State) : State :=
  (s.port p).queue.foldl (fun t e => (t.count p .dropPortClosed).release e.ref)
    (s.setPort p { s.port p with queue := [] })

/-- The closing of an open port (R35, R54, R62). -/
def closePort (p : Port) (mode : PortMode) (s : State) : State :=
  let s' := match (s.port p).rx with
    | .filling r => (s.count p .rxBroken).freeBuffer r.buffer
    | .search => s
    | .skip => s
    | .deaf => s
  flush p
    (s'.setPort p
      { s'.port p with
        mode := mode, rx := .deaf, candidate := none, ownStart := false, line := LineView.unmeasured
        tx := .halted, breakPending := false })

/-- The opening of a closed port (R36, R55, R66, R68). -/
def openPort (p : Port) (mode : PortMode) (s : State) : State :=
  s.setPort p
    { s.port p with
      mode := mode, rx := .search, candidate := none, ownStart := false, line := LineView.fresh s.clock
      tx := .idle, breakPending := false }

/-- A fault taken by the Port Supervisor (R60). -/
def takeFault (p : Port) (s : State) : State :=
  match (s.port p).mode with
  | .running => (s.count p .faults).setPort p { (s.count p .faults).port p with mode := .recovering }
  | .recovering => closePort p .isolated (s.count p .faults)
  | .isolated => s
  | .off => s

/-- A good completion or a completed transmission ends probation (R61). -/
def endProbation (p : Port) (s : State) : State :=
  match (s.port p).mode with
  | .recovering => s.setPort p { s.port p with mode := .running }
  | .running => s
  | .isolated => s
  | .off => s

/-! ## Egress queues and replies -/

/-- The entry that an append makes (R78): the deadline is the moment of the append plus the port's hold limit. -/
def newEntry (s : State) (p : Port) (ref : BufferRef) : EgressEntry :=
  ⟨ref, s.clock + 1000 * Config.ticksPerMicro * (s.port p).profile.holdLimit, 0⟩

/-- Whether an entry can be placed on a port now (R80): the port is open and its queue has room. -/
def LinePort.hasRoom (x : LinePort) : Bool := x.mode.isOpen && decide (x.queue.length < Config.queueCapacity)

/-- An entry appended at the tail of a queue, with the work it gives an idle transmitter (R38, R79). -/
def appendEntry (p : Port) (ref : BufferRef) (s : State) : State :=
  workAppears p (s.setPort p { s.port p with queue := (s.port p).queue ++ [newEntry s p ref] })

/-- The counter of a copy refused at a port (R80). -/
def refusalCounter (x : LinePort) : CounterName := if x.mode.isOpen then .dropQueueFull else .dropPortClosed

/-- A reply placed on the queue of its command's port, or discarded there (R83). -/
def placeReply (p : Port) (reply : Telegram) (s : State) : State :=
  if (s.port p).hasRoom then
    appendEntry p .reply
      { s with mgmt := { s.mgmt with unit := .replyPending, reply := some reply, replyPort := some p } }
  else s.count p (refusalCounter (s.port p))

/-! ## The Route Store as it reads -/

/-- The store segment of a slot: its number div 16 (6.1). -/
def segmentOfSlot (slot : Byte) : Segment := ⟨slot.toNat / 16, by have := slot.isLt; omega⟩

/-- A slot's own state. -/
def RouteStore.slot (r : RouteStore) (slot : Byte) : Slot := r.slots[slot.toFin]

/-- A slot as it reads: TORN in a QUARANTINED segment (R91). -/
def State.readSlot (s : State) (slot : Byte) : Slot :=
  if s.ctrl.quarantined[segmentOfSlot slot] then .torn else s.store.slot slot

/-- The slot of a launched PROGRAM or RETIRE. -/
def SlotWork.target : SlotWork → Byte
  | .program slot _ => slot
  | .retire slot => slot

/-- The segment of a launched PROGRAM or RETIRE. -/
def SlotWork.segment (w : SlotWork) : Segment := segmentOfSlot w.target

/-- The segment that a running operation holds busy (R128); BLANK CHECK holds none. -/
def Work.segment : Work → Option Segment
  | .slot w => some w.segment
  | .eraseSegment g => some g
  | .eraseAll _ g => some g
  | .wipe _ g => some g
  | .blankCheck _ => none

/-- Whether a store segment is busy: a running or waiting operation works on it (R128). -/
def StoreController.busy (c : StoreController) (g : Segment) : Bool :=
  (match c.running with
    | some r => decide (r.work.segment = some g)
    | none => false)
  || (match c.waiting with
    | some w => decide (w.segment = g)
    | none => false)

/-- Whether a boundary protects a segment (R127). -/
def boundaryProtects (boundary : Option Segment) (g : Segment) : Bool :=
  match boundary with
  | none => false
  | some b => decide (b ≤ g)

/-- The slots of a segment, all BLANK, and its mark written (R135, R136). -/
def RouteStore.eraseSegment (r : RouteStore) (g : Segment) : RouteStore where
  slots := Vector.ofFn fun i => if segmentOfSlot (BitVec.ofFin i) = g then .blank else r.slots[i]
  marks := r.marks.set g true

/-- The hit counters of a segment set to 0; segment 15 has none (R100). -/
def clearHits (hits : Vector Count 240) (g : Segment) : Vector Count 240 :=
  Vector.ofFn fun i => if i.val / 16 = g.val then 0 else hits[i]

end Sys2Proof.Machine
end

