-- ==== Sys2Proof/Machine/StoreControl.lean ====
section
/-! DEFINITION. The Store Controller's commands: staging, the checks of EXECUTE, launching, flags, the boundary. -/

namespace Sys2Proof.Machine

/-- The store errors, each a flag and a result (R123). -/
inductive StoreError
  | access | format | protect
  deriving DecidableEq, Repr

/-- The flag of a store error set (R123). -/
def StoreController.flag (c : StoreController) : StoreError → StoreController
  | .access => { c with accessError := true }
  | .format => { c with formatError := true }
  | .protect => { c with protectViolation := true }

/-- The result of a store error (R156). -/
def StoreError.result : StoreError → Result
  | .access => .accessError
  | .format => .formatError
  | .protect => .protectViolation

/-- STAGE at the Store Controller (R122, R129). -/
def stageRecord (target : Byte) (image : Option Image) (c : StoreController) : Result × StoreController :=
  if c.flagged then (.storeFlags, c)
  else if c.staged.isSome || c.waiting.isSome then (.accessError, c.flag .access)
  else (.ok, { c with staged := some ⟨target, image⟩ })

/-- Whether a running operation is a PROGRAM or RETIRE (R123, check 5). -/
def Work.isSlotWork : Work → Bool
  | .slot _ => true
  | .eraseSegment _ => false
  | .eraseAll _ _ => false
  | .wipe _ _ => false
  | .blankCheck _ => false

/-- Whether an operation is PROGRAM or RETIRE. -/
def Operation.isSlotWork : Operation → Bool
  | .program => true
  | .retire => true
  | .eraseSegment => false
  | .eraseAll => false
  | .wipe => false
  | .blankCheck => false

/-- Check 5 of R123: where an operation is running, it and the one named are each a PROGRAM or RETIRE. -/
def mayLaunchBehind (o : Operation) : Option Running → Bool
  | none => true
  | some r => o.isSlotWork && r.work.isSlotWork

/-- Check 6 (R124): the work that target and image make of an operation, or none where they do not suit it. -/
def workOf (o : Operation) (st : Staged) : Option Work :=
  match o with
  | .program => st.image.map fun i => .slot (.program st.target i)
  | .retire => some (.slot (.retire st.target))
  | .eraseSegment => (segmentOf st.target).map .eraseSegment
  | .eraseAll => some (.eraseAll st.target 0)
  | .wipe => some (.wipe st.target 0)
  | .blankCheck => some (.blankCheck st.target)

/-- Check 7 (R125, R126): the image of a PROGRAM, and the target of a RETIRE. -/
def formatPasses : Work → Bool
  | .slot (.program slot image) => imageSuits slot image
  | .slot (.retire slot) => decide (slot.toNat < 240)
  | .eraseSegment _ => true
  | .eraseAll _ _ => true
  | .wipe _ _ => true
  | .blankCheck _ => true

/-- Whether a running operation is a PROGRAM or RETIRE of the given slot (R124). -/
def worksOnSlot (slot : Byte) : Option Running → Bool
  | some ⟨.slot w, _, _, _⟩ => decide (w.target = slot)
  | some ⟨.eraseSegment _, _, _, _⟩ => false
  | some ⟨.eraseAll _ _, _, _, _⟩ => false
  | some ⟨.wipe _ _, _, _, _⟩ => false
  | some ⟨.blankCheck _, _, _, _⟩ => false
  | none => false

/-- Check 8 (R124): PROGRAM needs a BLANK slot and RETIRE a WRITTEN one, as they read, and neither may name the slot of the running
operation. -/
def slotStatePasses (s : State) : Work → Bool
  | .slot (.program slot _) =>
    (match s.readSlot slot with
      | .blank => true
      | .written _ => false
      | .retired _ => false
      | .torn => false) && !worksOnSlot slot s.ctrl.running
  | .slot (.retire slot) =>
    (match s.readSlot slot with
      | .written _ => true
      | .blank => false
      | .retired _ => false
      | .torn => false) && !worksOnSlot slot s.ctrl.running
  | .eraseSegment _ => true
  | .eraseAll _ _ => true
  | .wipe _ _ => true
  | .blankCheck _ => true

/-- Check 9 (R127). -/
def protectionPasses (boundary : Option Segment) : Work → Bool
  | .slot w => !boundaryProtects boundary w.segment
  | .eraseSegment g => !boundaryProtects boundary g
  | .eraseAll _ _ => boundary.isNone
  | .wipe _ _ => true
  | .blankCheck _ => true

/-- The nine checks of R123 in their order: the work to launch, or the error of the first check that fails. -/
def launchChecks (ingress : Port) (operation echo : Byte) (s : State) : Except StoreError Work :=
  match s.ctrl.staged with
  | none => .error .access
  | some st =>
    match operationOf operation with
    | none => .error .access
    | some o =>
      if echo ≠ st.target then .error .access
      else if o = .wipe ∧ s.straps.maint ≠ some ingress then .error .access
      else if mayLaunchBehind o s.ctrl.running = false then .error .access
      else
        match workOf o st with
        | none => .error .access
        | some w =>
          if formatPasses w = false then .error .format
          else if slotStatePasses s w = false then .error .access
          else if protectionPasses s.ctrl.boundary w = false then .error .protect
          else .ok w

/-- An operation starts at its launch (R128, R132): a PROGRAM or RETIRE opens its segment. The launch of a WIPE sets the boundary
to NONE (R136) and that of a BLANK CHECK sets BLANK_RESULT to NONE. -/
def startAtLaunch (now : Nat) (w : Work) (c : StoreController) : StoreController :=
  let c' := { c with running := some ⟨w, now, now, false⟩ }
  match w with
  | .slot sw => { c' with openSegment := some sw.segment }
  | .eraseSegment _ => c'
  | .eraseAll _ _ => c'
  | .wipe _ _ => { c' with boundary := none }
  | .blankCheck _ => { c' with blankResult := .none }

/-- An operation launched (R128): it starts at once, or waits behind the running PROGRAM or RETIRE; the staged record is used
up. -/
def launch (now : Nat) (w : Work) (c : StoreController) : StoreController :=
  let c' := { c with staged := none }
  match c.running, w with
  | some _, .slot sw => { c' with waiting := some sw }
  | _, _ => startAtLaunch now w c'

/-- EXECUTE at the Store Controller (R123, R129): a refused one sets its flag and discards the staged record. -/
def executeStore (ingress : Port) (operation echo : Byte) (s : State) : Result × StoreController :=
  if s.ctrl.flagged then (.storeFlags, s.ctrl)
  else
    match launchChecks ingress operation echo s with
    | .error e => (e.result, { s.ctrl.flag e with staged := none })
    | .ok w => (.ok, launch s.clock w s.ctrl)

/-- ABORT STAGE (R130): the staged record is discarded and ACCESS_ERROR set in every case. -/
def abortStaged (c : StoreController) : StoreController := { c with staged := none, accessError := true }

/-- CLEAR STORE FLAGS (R131). -/
def clearFlags (c : StoreController) : StoreController :=
  { c with accessError := false, protectViolation := false, formatError := false, blankResult := .none }

/-- Whether a new boundary would protect work already launched (R127). -/
def coversWork (b : Segment) (c : StoreController) : Bool :=
  (match c.running with
    | some ⟨.slot w, _, _, _⟩ => decide (b ≤ w.segment)
    | some ⟨.eraseSegment g, _, _, _⟩ => decide (b ≤ g)
    | some ⟨.eraseAll _ g, _, _, _⟩ => (List.finRange 16).any fun h => decide (g ≤ h) && decide (b ≤ h)
    | some ⟨.wipe _ g, _, _, _⟩ => (List.finRange 16).any fun h => decide (g ≤ h) && decide (b ≤ h)
    | some ⟨.blankCheck _, _, _, _⟩ => false
    | none => false)
  || (match c.waiting with
    | some w => decide (b ≤ w.segment)
    | none => false)

/-- Whether a segment lies below the working boundary, so that it would raise the protection (R146). -/
def raisesBoundary (b : Segment) : Option Segment → Bool
  | none => true
  | some old => decide (b < old)

/-- RAISE PROTECTION (R146). -/
def raiseBoundary (segment : Byte) (c : StoreController) : Result × StoreController :=
  match segmentOf segment with
  | none => (.badArgument, c)
  | some b =>
    if raisesBoundary b c.boundary = false then (.badArgument, c)
    else if coversWork b c then (.accessError, c.flag .access)
    else (.ok, { c with boundary := some b })

end Sys2Proof.Machine
end

