-- ==== Sys2Proof/Machine/Management.lean ====
section
/-! DEFINITION. The Management Unit: taking a command, the access check, each command, its reply (chapters 9 and 10). -/

namespace Sys2Proof.Machine

/-- What a command comes to: its result, the data of its reply after the result, and the bridge after it. -/
structure Performed where
  result : Result
  data : List Byte
  state : State
  deriving DecidableEq, Repr

/-! ## Data of replies (11.3) -/

/-- The store state that a store command's reply carries (R156). -/
def storeStateData (c : StoreController) : List Byte := [c.stateCode, c.flagsByte, boundaryByte c.boundary]

/-- The number of slots that read TORN (R101). -/
def tornCount (s : State) : Nat :=
  ((List.finRange 256).filter fun i => s.readSlot (BitVec.ofFin i) == .torn).length

/-- The QUARANTINED segments as a 16-bit value: bit n for segment n (11.3). -/
def quarantineBits (c : StoreController) : Nat :=
  (List.finRange 16).foldl (fun n g => n + if c.quarantined[g] then 2 ^ g.val else 0) 0

/-- The data of a STATUS reply, bytes 3 to 19 (R155, 11.3). -/
def statusData (s : State) : List Byte :=
  [s.mgmt.level.code, BitVec.ofNat 8 s.mgmt.failed, s.ctrl.stateCode, s.ctrl.flagsByte, boundaryByte s.ctrl.boundary,
    (s.port .a).mode.code, (s.port .b).mode.code, (s.port .c).mode.code, maintByte s.straps.maint,
    s.record.cause.code, s.record.cause.portByte, s.record.count, s.address]
    ++ twoBytes (quarantineBits s.ctrl) ++ twoBytes (tornCount s)

/-- The hit counter that READ ENTRY reports: 0 for slots 240 to 255 (R101). -/
def reportedHits (s : State) (slot : Byte) : Count := if h : slot.toNat < 240 then s.hits[slot.toNat] else 0

/-- The image that READ ENTRY reports: that of a slot that reads WRITTEN or RETIRED, but for slot 242 (R101, R155). -/
def reportedImage (s : State) (slot : Byte) : List Byte :=
  if slot = 242 then []
  else
    match s.readSlot slot with
    | .written i => i.toList
    | .retired i => i.toList
    | .blank => []
    | .torn => []

/-- The data of a READ ENTRY reply (11.3). -/
def readEntryData (s : State) (slot : Byte) : List Byte :=
  [slot, (s.readSlot slot).code] ++ countBytes (reportedHits s slot) ++ reportedImage s slot

/-- The six counters of a group, in place order (R85). -/
def groupData (v : Counters) (group : Fin 3) : List Byte :=
  (List.finRange 6).flatMap fun k => countBytes v[group.val * 6 + k.val]

/-! ## The commands -/

/-- READ PORT COUNTERS (R85). -/
def performReadPortCounters (port group : Byte) (s : State) : Performed :=
  match portOf port with
  | none => ⟨.badArgument, [], s⟩
  | some p =>
    if h : group.toNat < 3 then ⟨.ok, [port, group] ++ groupData (s.port p).counters ⟨group.toNat, h⟩, s⟩
    else ⟨.badArgument, [], s⟩

/-- CLEAR COUNTERS (R86). -/
def performClearCounters (port : Byte) (s : State) : Performed :=
  match portOf port with
  | none => ⟨.badArgument, [], s⟩
  | some p => ⟨.ok, [], s.setPort p { s.port p with counters := Counters.zero }⟩

/-- A store command performed: its reply carries the store state after it (R156). -/
def performStore (s : State) (rc : Result × StoreController) : Performed :=
  ⟨rc.1, storeStateData rc.2, { s with ctrl := rc.2 }⟩

/-- UNLOCK at the Management Unit (R148). -/
def unlockUnit (code : AccessCode) (m : ManagementUnit) : Result × ManagementUnit :=
  if Config.unlockLimit ≤ m.failed then (.keyBarred, m)
  else
    match m.level with
    | .open => (.ok, m)
    | .locked =>
      if m.code = some code then (.ok, { m with level := .open })
      else (.keyMismatch, { m with failed := m.failed + 1 })

/-- UNLOCK (R148, R157). -/
def performUnlock (code : AccessCode) (s : State) : Performed :=
  let rm := unlockUnit code s.mgmt
  ⟨rm.1, [rm.2.level.code, BitVec.ofNat 8 rm.2.failed], { s with mgmt := rm.2 }⟩

/-- PORT CONTROL RESTORE of a port (R66): refused on the ingress port and on a port that is not ISOLATED. -/
def restorePort (ingress p : Port) (s : State) : Result × State :=
  match (s.port p).mode with
  | .isolated => if p = ingress then (.portState, s) else (.ok, openPort p .recovering s)
  | .running => (.portState, s)
  | .recovering => (.portState, s)
  | .off => (.portState, s)

/-- PORT CONTROL DISABLE of a port (R62, R67). -/
def disablePort (p : Port) (s : State) : Result × State :=
  match (s.port p).mode with
  | .running => (.ok, closePort p .off s)
  | .recovering => (.ok, closePort p .off s)
  | .isolated => (.ok, s.setPort p { s.port p with mode := .off })
  | .off => (.ok, s)

/-- PORT CONTROL ENABLE of a port (R68). -/
def enablePort (p : Port) (s : State) : Result × State :=
  match (s.port p).mode with
  | .off => (.ok, openPort p .running s)
  | .running => (.portState, s)
  | .recovering => (.portState, s)
  | .isolated => (.portState, s)

/-- PORT CONTROL (R65): port and action are checked, the action taken or refused; the reply carries the port's state after it. -/
def performPortControl (ingress : Port) (port action : Byte) (s : State) : Performed :=
  match portOf port, actionOf action with
  | some p, some act =>
    let rs := match act with
      | .restore => restorePort ingress p s
      | .disable => disablePort p s
      | .enable => enablePort p s
    ⟨rs.1, [(rs.2.port p).mode.code], rs.2⟩
  | _, _ => ⟨.badArgument, [], s⟩

/-- A break request at a port's transmitter (R52). -/
def requestBreak (p : Port) (s : State) : Result × State :=
  if (s.port p).mode.isOpen && !(s.port p).breakPending then
    (.ok, workAppears p (s.setPort p { s.port p with breakPending := true }))
  else (.portState, s)

/-- SEND BREAK (R52, R157). -/
def performSendBreak (port : Byte) (s : State) : Performed :=
  match portOf port with
  | none => ⟨.badArgument, [], s⟩
  | some p =>
    let rs := requestBreak p s
    ⟨rs.1, [(rs.2.port p).mode.code], rs.2⟩

/-- RESTART accepted (R158): the restart mark is set. -/
def performRestart (s : State) : Performed := ⟨.ok, [], { s with mgmt := { s.mgmt with restartMark := true } }⟩

/-- Steps 3 and 4 of R152: the command's own checks and its performance. -/
def performCommand (ingress : Port) (c : MgmtCommand) (s : State) : Performed :=
  match c with
  | .status => ⟨.ok, statusData s, s⟩
  | .readEntry slot => ⟨.ok, readEntryData s slot, s⟩
  | .readPortCounters port group => performReadPortCounters port group s
  | .clearCounters port => performClearCounters port s
  | .stage target image => performStore s (stageRecord target image s.ctrl)
  | .execute operation echo => performStore s (executeStore ingress operation echo s)
  | .abortStage => performStore s (.accessError, abortStaged s.ctrl)
  | .clearStoreFlags => performStore s (.ok, clearFlags s.ctrl)
  | .raiseProtection segment => performStore s (raiseBoundary segment s.ctrl)
  | .unlock code => performUnlock code s
  | .portControl port action => performPortControl ingress port action s
  | .sendBreak port => performSendBreak port s
  | .restart => performRestart s
  | .bad _ => ⟨.badCommand, [], s⟩

/-- The access check of a LOCKED bridge (R149). -/
def allowedLocked (maint : Option Port) (ingress : Port) : MgmtCommand → Bool
  | .status => true
  | .readEntry _ => true
  | .readPortCounters _ _ => true
  | .unlock _ => true
  | .raiseProtection _ => true
  | .clearStoreFlags => true
  | .stage _ _ => decide (maint = some ingress)
  | .abortStage => decide (maint = some ingress)
  | .execute operation _ =>
    decide (maint = some ingress)
      && (decide (operationOf operation = some .wipe) || decide (operationOf operation = some .blankCheck))
  | .clearCounters _ => false
  | .portControl _ _ => false
  | .sendBreak _ => false
  | .restart => false
  | .bad _ => true

/-- Whether the access check lets a command pass (R149, R152): on an OPEN bridge there is none. -/
def accessPasses (s : State) (ingress : Port) (c : MgmtCommand) : Bool :=
  match s.mgmt.level with
  | .open => true
  | .locked => allowedLocked s.straps.maint ingress c

/-- A command examined in the order of R152. A command refused at step 1 is `bad` and passes to its result. -/
def examineCommand (ingress : Port) (c : MgmtCommand) (s : State) : Performed :=
  if accessPasses s ingress c then performCommand ingress c s else ⟨.locked, [], s⟩

/-- A reply telegram (R153): class 7 in the upper three bits, so that character 3 is E0h + L. -/
def replyTelegram (address source code : Byte) (result : Result) (data : List Byte) : Telegram :=
  { destination := source, source := address
    control := BitVec.ofNat 8 (0xE0 + (2 + data.length))
    payload := [code, result.code] ++ data }

/-- Whether the Management Unit is ready to take a command (R151). -/
def ManagementUnit.isReady (m : ManagementUnit) : Bool := decide (m.unit = .idle) && !m.restartMark

/-- A recognised command handed to the Management Unit (R106, R107): discarded with MGMT_BUSY where the unit is not ready;
otherwise performed, and its reply built and placed. -/
def takeCommand (ingress : Port) (source : Byte) (c : MgmtCommand) (s : State) : State :=
  if s.mgmt.isReady then
    let done := examineCommand ingress c s
    placeReply ingress (replyTelegram s.address source c.code done.result done.data) done.state
  else s.count ingress .mgmtBusy

/-! ## The rows. Each is the hand-over of R106: a command received on the ingress port from the source (log entry 2). -/

/-- STATUS (R155). -/
def execStatus (ingress : Port) (source : Byte) (s : State) : Answer :=
  whenStarted (takeCommand ingress source .status) s

/-- READ_ENTRY (R101). -/
def execReadEntry (ingress : Port) (source slot : Byte) (s : State) : Answer :=
  whenStarted (takeCommand ingress source (.readEntry slot)) s

/-- READ_PORT_COUNTERS (R85). -/
def execReadPortCounters (ingress : Port) (source port group : Byte) (s : State) : Answer :=
  whenStarted (takeCommand ingress source (.readPortCounters port group)) s

/-- CLEAR_COUNTERS (R86). -/
def execClearCounters (ingress : Port) (source port : Byte) (s : State) : Answer :=
  whenStarted (takeCommand ingress source (.clearCounters port)) s

/-- STAGE (R122). -/
def execStage (ingress : Port) (source target : Byte) (image : Option Image) (s : State) : Answer :=
  whenStarted (takeCommand ingress source (.stage target image)) s

/-- PROGRAM: an EXECUTE naming it (R123). -/
def execProgram (ingress : Port) (source echo : Byte) (s : State) : Answer :=
  whenStarted (takeCommand ingress source (.execute Operation.program.code echo)) s

/-- RETIRE: an EXECUTE naming it (R123). -/
def execRetire (ingress : Port) (source echo : Byte) (s : State) : Answer :=
  whenStarted (takeCommand ingress source (.execute Operation.retire.code echo)) s

/-- ERASE_SEGMENT: an EXECUTE naming it (R123). -/
def execEraseSegment (ingress : Port) (source echo : Byte) (s : State) : Answer :=
  whenStarted (takeCommand ingress source (.execute Operation.eraseSegment.code echo)) s

/-- ERASE_ALL: an EXECUTE naming it (R123). -/
def execEraseAll (ingress : Port) (source echo : Byte) (s : State) : Answer :=
  whenStarted (takeCommand ingress source (.execute Operation.eraseAll.code echo)) s

/-- WIPE: an EXECUTE naming it (R136). -/
def execWipe (ingress : Port) (source echo : Byte) (s : State) : Answer :=
  whenStarted (takeCommand ingress source (.execute Operation.wipe.code echo)) s

/-- BLANK_CHECK: an EXECUTE naming it (R128). -/
def execBlankCheck (ingress : Port) (source echo : Byte) (s : State) : Answer :=
  whenStarted (takeCommand ingress source (.execute Operation.blankCheck.code echo)) s

/-- ABORT_STAGE (R130). -/
def execAbortStage (ingress : Port) (source : Byte) (s : State) : Answer :=
  whenStarted (takeCommand ingress source .abortStage) s

/-- CLEAR_STORE_FLAGS (R131). -/
def execClearStoreFlags (ingress : Port) (source : Byte) (s : State) : Answer :=
  whenStarted (takeCommand ingress source .clearStoreFlags) s

/-- RAISE_PROTECTION (R146). -/
def execRaiseProtection (ingress : Port) (source segment : Byte) (s : State) : Answer :=
  whenStarted (takeCommand ingress source (.raiseProtection segment)) s

/-- UNLOCK (R148). -/
def execUnlock (ingress : Port) (source : Byte) (code : AccessCode) (s : State) : Answer :=
  whenStarted (takeCommand ingress source (.unlock code)) s

/-- RESTORE: a PORT CONTROL naming it (R66). -/
def execRestore (ingress : Port) (source port : Byte) (s : State) : Answer :=
  whenStarted (takeCommand ingress source (.portControl port Action.restore.code)) s

/-- DISABLE: a PORT CONTROL naming it (R67). -/
def execDisable (ingress : Port) (source port : Byte) (s : State) : Answer :=
  whenStarted (takeCommand ingress source (.portControl port Action.disable.code)) s

/-- ENABLE: a PORT CONTROL naming it (R68). -/
def execEnable (ingress : Port) (source port : Byte) (s : State) : Answer :=
  whenStarted (takeCommand ingress source (.portControl port Action.enable.code)) s

/-- SEND_BREAK (R52). -/
def execSendBreak (ingress : Port) (source port : Byte) (s : State) : Answer :=
  whenStarted (takeCommand ingress source (.sendBreak port)) s

/-- RESTART (R158). -/
def execRestart (ingress : Port) (source : Byte) (s : State) : Answer :=
  whenStarted (takeCommand ingress source .restart) s

/-- UNKNOWN_COMMAND (R152): the Management Unit goes by the payload's bytes. -/
def execUnknownCommand (ingress : Port) (source : Byte) (payload : List Byte) (s : State) : Answer :=
  whenStarted (takeCommand ingress source (decodePayload payload)) s

/-- EXECUTE_UNKNOWN_OPERATION (R123): the Store Controller goes by the operation byte. -/
def execExecuteUnknownOperation (ingress : Port) (source operation echo : Byte) (s : State) : Answer :=
  whenStarted (takeCommand ingress source (.execute operation echo)) s

/-- PORT_CONTROL_UNKNOWN_ACTION (R65): the Management Unit goes by the action byte. -/
def execPortControlUnknownAction (ingress : Port) (source port action : Byte) (s : State) : Answer :=
  whenStarted (takeCommand ingress source (.portControl port action)) s

end Sys2Proof.Machine
end

