-- ==== Sys2Proof/Machine/Classification.lean ====
section
/-! DEFINITION. The Route Engine: management recognition, scan, field test, decision, rewrite, adjustment, enqueue (chapters 6 and 7). -/

namespace Sys2Proof.Machine

/-! ## Keys and field tests -/

/-- An address compared under a mask (R92, R95): every bit that has 1 in the mask is the same in both. -/
def AddressMatch.accepts (m : AddressMatch) (address : Byte) : Bool := decide (address &&& m.mask = m.value &&& m.mask)

/-- Whether a telegram matches the key of a route entry (R95). -/
def RouteEntry.matches (e : RouteEntry) (ingress : Port) (t : Telegram) : Bool :=
  e.ingress.get ingress && e.destination.accepts t.destination && e.source.accepts t.source
    && (match e.cls with
      | none => true
      | some c => decide (t.cls = c))

/-- The value of a field (R109); none where the field lies beyond the payload. Payload byte k + 1 is at index k. -/
def FieldTest.value (f : FieldTest) (t : Telegram) : Option Int :=
  if t.length < f.offset + f.width.bytes then none
  else
    let m := t.payload.getD f.offset 0
    let n := t.payload.getD (f.offset + 1) 0
    match f.width, f.signed with
    | .byte, false => some m.toNat
    | .byte, true => some (if m.toNat ≤ 127 then (m.toNat : Int) else (m.toNat : Int) - 256)
    | .word, false => some (word m n)
    | .word, true => some (signedWord m n)

/-- The indicators of a difference and a band (R111). -/
def indicators (d : Int) (band : Nat) : Condition :=
  ⟨decide (d < 0), decide (d = 0), decide (0 < d), decide (band < d.natAbs)⟩

/-- Whether at least one indicator of a mask is set (R111). -/
def Condition.meets (mask ind : Condition) : Bool :=
  (mask.lt && ind.lt) || (mask.eq && ind.eq) || (mask.gt && ind.gt) || (mask.beyond && ind.beyond)

/-- The condition of a field test (R110, R111): a short test sets no indicator and is false. -/
def FieldTest.holds (f : FieldTest) (t : Telegram) : Bool :=
  match f.value t with
  | none => false
  | some v => f.condition.meets (indicators (v - f.reference) f.band)

/-! ## Decisions -/

/-- A decision (7.6): forward set, rewrite, adjustment with the test whose field it acts on, deciding entry. -/
structure Decision where
  forward : PortSet
  rewrite : Option Byte
  adjust : Option (FieldTest × Adjustment)
  entry : Option (Fin 240)
  deriving DecidableEq, Repr

/-- The true action of an entry as a decision (R108). -/
def trueAction (i : Fin 240) (e : RouteEntry) : Decision where
  forward := e.forward
  rewrite := e.rewrite
  adjust := match e.test, e.adjust with
    | some f, some a => some (f, a)
    | some _, none => none
    | none, _ => none
  entry := some i

/-- The verdict of an entry whose key the telegram matches (R108, R113): a decision, or none where it passes the telegram on. -/
def entryVerdict (i : Fin 240) (e : RouteEntry) (default : PortSet) (t : Telegram) : Option Decision :=
  match e.test with
  | none => some (trueAction i e)
  | some f =>
    if f.holds t then some (trueAction i e)
    else
      match f.falseAction with
      | .drop => some ⟨PortSet.empty, none, none, some i⟩
      | .default => some ⟨default, none, none, some i⟩
      | .continue => none

/-- The slot number of a route index. -/
def routeSlot (i : Fin 240) : Byte := BitVec.ofNat 8 i.val

/-- A slot at the scan (R96, R108): only a WRITTEN slot of a segment neither busy nor QUARANTINED is considered. -/
def slotVerdict (s : State) (ingress : Port) (t : Telegram) (i : Fin 240) : Option Decision :=
  match s.readSlot (routeSlot i) with
  | .written image =>
    match decodeRoute image with
    | some e => if e.matches ingress t then entryVerdict i e (s.port ingress).profile.defaultAction t else none
    | none => none
  | .blank => none
  | .retired _ => none
  | .torn => none

/-- What a scan comes to: the decision of an entry, or undecided with the note of a busy segment passed over (R96). -/
inductive ScanResult
  | decided (decision : Decision)
  | undecided (noted : Bool)
  deriving DecidableEq, Repr

/-- The scan of a list of slots in order (R96). A busy segment is passed over with a note. -/
def scanSlots (s : State) (ingress : Port) (t : Telegram) (noted : Bool) : List (Fin 240) → ScanResult
  | [] => .undecided noted
  | i :: rest =>
    if s.ctrl.busy (segmentOfSlot (routeSlot i)) then scanSlots s ingress t true rest
    else
      match slotVerdict s ingress t i with
      | some d => .decided d
      | none => scanSlots s ingress t noted rest

/-- The scan of slots 0 to 239 (R96). -/
def scanTable (s : State) (ingress : Port) (t : Telegram) : ScanResult :=
  scanSlots s ingress t false (List.finRange 240)

/-! ## Applying a decision -/

/-- A value brought into a field's range by a policy (R116, R117); none where the telegram is dropped. -/
def overflowValue (width : Width) (signed : Bool) (policy : Overflow) (r : Int) : Option Int :=
  if inFieldRange width signed r then some r
  else
    match policy with
    | .wrap => some (r % width.modulus)
    | .clamp => some (if r < (fieldRange width signed).1 then (fieldRange width signed).1 else (fieldRange width signed).2)
    | .drop => none

/-- A value written into a field in the field's own representation (R116): two's complement below 0, a WORD's more significant byte
first. -/
def FieldTest.write (f : FieldTest) (v : Int) (t : Telegram) : Telegram :=
  let n := (v % f.width.modulus).toNat
  match f.width with
  | .byte => { t with payload := t.payload.set f.offset (BitVec.ofNat 8 n) }
  | .word =>
    { t with payload := (t.payload.set f.offset (BitVec.ofNat 8 (n / 256))).set (f.offset + 1) (BitVec.ofNat 8 n) }

/-- The rewrite (R115). -/
def rewriteTelegram (rewrite : Option Byte) (t : Telegram) : Telegram :=
  match rewrite with
  | some d => { t with destination := d }
  | none => t

/-- The adjustment (R116, R117); none where its overflow drops the telegram. The true action was taken, so the test is not short. -/
def adjustTelegram (adjust : Option (FieldTest × Adjustment)) (t : Telegram) : Option Telegram :=
  match adjust with
  | none => some t
  | some (f, a) =>
    match f.value t with
    | none => some t
    | some v => (overflowValue f.width f.signed a.policy (v + a.amount)).map fun r => f.write r t

/-- One port of a forward set decided (R80): an entry placed, with the buffer's reference count raised by one, or the copy refused
and counted. -/
def enqueueOn (i : Fin Config.poolSize) (s : State) (p : Port) : State :=
  if (s.port p).hasRoom then
    let raised := match (s.buffer i).claim with
      | .held ingress refs => s.setBuffer i { s.buffer i with claim := .held ingress (refs + 1) }
      | .free => s
      | .filling _ => s
      | .waiting _ => s
    appendEntry p (.pool i) raised
  else s.count p (refusalCounter (s.port p))

/-- The ports of a set in the order A, B, C (00_scope.md, 1.5). -/
def PortSet.ports (set : PortSet) : List Port := [Port.a, .b, .c].filter fun p => PerPort.get set p

/-- The enqueue of a buffer for a forward set (R80, R81): each port is decided for itself; with no entry placed the buffer is
FREE. -/
def enqueue (i : Fin Config.poolSize) (ingress : Port) (t : Telegram) (set : PortSet) (s : State) : State :=
  let s' := set.ports.foldl (enqueueOn i) (s.setBuffer i ⟨.held ingress 0, t⟩)
  match (s'.buffer i).claim with
  | .held _ 0 => s'.freeBuffer i
  | _ => s'

/-- The deciding entry's hit counter raised, if there is one (R100, R114). -/
def raiseHit (entry : Option (Fin 240)) (s : State) : State :=
  match entry with
  | some i => { s with hits := s.hits.set i (countUp s.hits[i]) }
  | none => s

/-- A decision applied (R114 to R119). The telegram's own ingress port, and no other port of the entry's ingress set, leaves the forward
set: R94's words that an entry whose forward set lies wholly inside its ingress set drops every telegram hold, so read, where both name
one port (DEDUCED, log entry 18). -/
def applyDecision (i : Fin Config.poolSize) (ingress : Port) (t : Telegram) (d : Decision) (s : State) : State :=
  let s' := raiseHit d.entry s
  let set := PortSet.without d.forward ingress
  if set.isEmpty then (s'.count ingress .dropRoute).freeBuffer i
  else
    match adjustTelegram d.adjust (rewriteTelegram d.rewrite t) with
    | none => (s'.count ingress .dropOverflow).freeBuffer i
    | some t' => enqueue i ingress t' set s'

/-- An ordinary telegram classified (R108, R112): by the table, or by the ingress port's default action after an undecided scan,
which counts BUSY_SKIPS where it passed over a busy segment (R98). -/
def routeTelegram (i : Fin Config.poolSize) (ingress : Port) (t : Telegram) (s : State) : State :=
  match scanTable s ingress t with
  | .decided d => applyDecision i ingress t d s
  | .undecided noted =>
    applyDecision i ingress t ⟨(s.port ingress).profile.defaultAction, none, none, none⟩
      (if noted then s.count ingress .busySkips else s)

/-- Whether a telegram is a management command for this bridge (R105). -/
def isCommand (s : State) (t : Telegram) : Bool := decide (t.cls = 7) && decide (t.destination = s.address)

/-- The classification of a WAITING buffer already taken from the queue (R75, R103, R105, R106). -/
def classifyBuffer (i : Fin Config.poolSize) (ingress : Port) (s : State) : State :=
  let t := (s.buffer i).telegram
  if isCommand s t then
    takeCommand ingress t.source (decodePayload (t.payload.take t.length)) (s.freeBuffer i)
  else routeTelegram i ingress t s

/-- CLASSIFICATION (R103): the buffer at the head of the Classification Queue is decided; with an empty queue the engine does
nothing. -/
def classify (s : State) : State :=
  match s.classQueue with
  | [] => s
  | i :: rest =>
    match (s.buffer i).claim with
    | .waiting ingress => classifyBuffer i ingress { s with classQueue := rest }
    | .free => { s with classQueue := rest }
    | .filling _ => { s with classQueue := rest }
    | .held _ _ => { s with classQueue := rest }

/-- CLASSIFICATION (R103). -/
def execClassification (s : State) : Answer := whenStarted classify s

end Sys2Proof.Machine
end

