-- ==== Sys2Proof/Machine/Resets.lean ====
section
/-! DEFINITION. Resets and start-up: the four causes, the Reset Record, the tearing of interrupted store work, start-up. -/

namespace Sys2Proof.Machine

/-! ## The beginning of a reset -/

/-- The Reset Record after a cause (R143): POWER_ON sets the count to 0, any other raises it by one up to 255. -/
def ResetRecord.after (r : ResetRecord) (cause : Cause) : ResetRecord :=
  match cause with
  | .powerOn => ⟨.powerOn, 0⟩
  | .resetPin => ⟨.resetPin, if r.count = 255 then 255 else r.count + 1⟩
  | .lineReset p => ⟨.lineReset p, if r.count = 255 then 255 else r.count + 1⟩
  | .restart => ⟨.restart, if r.count = 255 then 255 else r.count + 1⟩

/-- What an interrupted operation leaves in the store (R138): the slot of a PROGRAM or RETIRE is TORN, the segment being erased
loses its mark, a BLANK CHECK changes nothing. -/
def abortWork (r : RouteStore) : Option Running → RouteStore
  | none => r
  | some run =>
    match run.work with
    | .slot w => { r with slots := r.slots.set w.target.toFin .torn }
    | .eraseSegment g => { r with marks := r.marks.set g false }
    | .eraseAll _ g => { r with marks := r.marks.set g false }
    | .wipe _ g => { r with marks := r.marks.set g false }
    | .blankCheck _ => r

/-- A port held in reset: it takes no part on its line (R142). -/
def LinePort.inReset : LinePort where
  mode := .off
  rx := .deaf
  candidate := none
  ownStart := false
  line := LineView.unmeasured
  tx := .halted
  breakPending := false
  queue := []
  profile := Profile.default .rate19200
  counters := Counters.zero

/-- The beginning of a reset (R87, R138, R142, R143): the record takes the cause, store work in progress is aborted, and all
volatile state is given up. The store, the record, the straps latched last, the clock and the commands waiting outside stay. -/
def enterReset (cause : Cause) (s : State) : State where
  phase := .inReset
  clock := s.clock
  ports := PerPort.all LinePort.inReset
  pool := emptyPool
  classQueue := []
  hits := Vector.replicate 240 0
  store := abortWork s.store s.ctrl.running
  ctrl := StoreController.reset none (Vector.replicate 16 false)
  mgmt := ManagementUnit.reset none
  address := Config.defaultAddress
  straps := s.straps
  record := s.record.after cause
  pending := s.pending

/-- POWER_ON (R142). -/
def execPowerOn (s : State) : Answer := .next (enterReset .powerOn s)

/-- RESET_PIN (R142). -/
def execResetPin (s : State) : Answer := .next (enterReset .resetPin s)

/-- The reset of an accepted RESTART takes effect when the Reply Buffer is EMPTY and the Store Controller DONE (R159). -/
def restartDue (s : State) : Bool := s.mgmt.restartMark && s.mgmt.reply.isNone && s.ctrl.done

/-- RESTART_RESET (R159). -/
def execRestartReset (s : State) : Answer :=
  whenStarted (fun s => if restartDue s then enterReset .restart s else s) s

/-! ## Start-up -/

/-- A configuration slot's image if the slot reads WRITTEN under the quarantine found at this start-up (R91, R139). A segment is
QUARANTINED when its mark is absent. -/
def configImage (r : RouteStore) (slot : Byte) : Option Image :=
  if r.marks[segmentOfSlot slot] then
    match r.slot slot with
    | .written i => some i
    | .blank => none
    | .retired _ => none
    | .torn => none
  else none

/-- A working setting loaded from its slot, or its default where the slot does not read WRITTEN (R139). -/
def loadSetting {α : Type} (r : RouteStore) (slot : Byte) (decode : Image → Option α) (default : α) : α :=
  ((configImage r slot).bind decode).getD default

/-- The slot of a port's profile (R139). -/
def profileSlot : Port → Byte
  | .a => 243
  | .b => 244
  | .c => 245

/-- The working profile of a port at start-up (R139, R140). -/
def loadProfile (r : RouteStore) (rate : RateStrap) (p : Port) : Profile :=
  loadSetting r (profileSlot p) decodeProfile (Profile.default rate)

/-- Start-up, in the order of R144: straps, store, address, boundary and access, profiles, ports, volatile state. -/
def startUp (straps : Straps) (s : State) : State where
  phase := .started
  clock := s.clock
  ports :=
    { a := LinePort.started (loadProfile s.store straps.rate .a) s.clock
      b := LinePort.started (loadProfile s.store straps.rate .b) s.clock
      c := LinePort.started (loadProfile s.store straps.rate .c) s.clock }
  pool := emptyPool
  classQueue := []
  hits := Vector.replicate 240 0
  store := s.store
  ctrl := StoreController.reset (loadSetting s.store 241 decodeProtection none) (s.store.marks.map (!·))
  mgmt := ManagementUnit.reset (loadSetting s.store 242 (fun i => (decodeAccessCode i).map some) none)
  address := loadSetting s.store 240 decodeIdentity Config.defaultAddress
  straps := straps
  record := s.record
  pending := s.pending

/-- START_UP (R144): the end of a reset. A started bridge is in no reset, and nothing changes (log entry 4). -/
def execStartUp (straps : Straps) (s : State) : Answer :=
  .next (match s.phase with
    | .inReset => startUp straps s
    | .started => s)

end Sys2Proof.Machine
end

