-- ==== Sys2Proof/Machine/Reception.lean ====
section
/-! DEFINITION. The line events that reach a port's receiver: characters, idle gaps, breaks, the stuck line, the telegram time limit, candidate start bits. -/

namespace Sys2Proof.Machine

/-! ## The telegram in reception -/

/-- The start bit of the character that ends now (R23): the candidate that start search found, or, where no command named it,
one that begins now and is the attempt's own start bit if that has been driven and not met yet (log entry 10). -/
def startBitOf (x : LinePort) (now : Nat) : StartBit :=
  match x.candidate with
  | some c => c
  | none => ⟨now, x.ownStart⟩

/-- Whether a header whose start bit is given is the port's own attempt, still in progress (R23). -/
def marksOwn (x : LinePort) (start : StartBit) : Bool :=
  start.own && (match x.tx.attempt with
    | some a => !a.completed
    | none => false)

/-- A header (R20): the lowest FREE buffer becomes FILLING and the telegram time limit starts (R57, R71), or RX_NO_BUFFER is
counted and the receiver enters SKIP. R73 lets a taken buffer still hold bytes of an earlier telegram until they are written over; here
source and control are 0 and the payload empty from the take on, which nothing reads before it is written (DESIGN CHOICE, log
entry 8). -/
def takeHeader (p : Port) (c : Character) (start : StartBit) (s : State) : State :=
  match s.freeIndex with
  | none => (s.count p .rxNoBuffer).setPort p { (s.count p .rxNoBuffer).port p with rx := .skip }
  | some i =>
    (s.setBuffer i ⟨.filling p, ⟨c.data, 0, 0, []⟩⟩).setPort p
      { s.port p with
        rx := .filling
          { buffer := i, position := 1, expected := none, crc := crcByte crcStart c.data, checkHigh := none
            noise := c.noisy, own := marksOwn (s.port p) start, limitFrom := start.moment } }

/-- An ordinary telegram with a good check value (R27, R28): dropped by the noise policy, or accepted at the tail of the
Classification Queue. -/
def acceptTelegram (p : Port) (r : RxRecord) (s : State) : State :=
  if r.noise ∧ (s.port p).profile.noise = .drop then (s.count p .rxNoisyDropped).freeBuffer r.buffer
  else
    let s' := (s.count p .rxGood).setBuffer r.buffer { s.buffer r.buffer with claim := .waiting p }
    { s' with classQueue := s'.classQueue ++ [r.buffer] }

/-- Completion at position 5 + L (R25, R26): the check register compared with the received check value. -/
def completeTelegram (p : Port) (r : RxRecord) (received : Check) (s : State) : State :=
  let s' := s.setPort p { s.port p with rx := .search }
  if r.crc = received then
    if r.own then echoVerdict p (some .txDone) ((endProbation p s').freeBuffer r.buffer)
    else acceptTelegram p r (endProbation p s')
  else if r.own then echoVerdict p (some .txCollision) (s'.freeBuffer r.buffer)
  else (s'.count p .rxChecksum).freeBuffer r.buffer

/-- A data byte stored in the buffer being filled, by position (R22): the source, the class and length byte, or a payload byte. -/
def storeByte (position : Nat) (data : Byte) (t : Telegram) : Telegram :=
  if position = 2 then { t with source := data }
  else if position = 3 then { t with control := data }
  else { t with payload := t.payload ++ [data] }

/-- A good non-mark character in FILLING (R22). The expected count is absent until position 3, which fixes it at 5 + L. -/
def storeCharacter (p : Port) (r : RxRecord) (c : Character) (s : State) : State :=
  let n := r.position + 1
  let r' := { r with position := n, noise := r.noise || c.noisy }
  let expected := if n = 3 then some (5 + c.data.toNat % 32) else r.expected
  if expected = some n then
    completeTelegram p r' ((r.checkHigh.getD 0) ++ c.data) s
  else if expected = some (n + 1) then
    s.setPort p { s.port p with rx := .filling { r' with checkHigh := some c.data } }
  else
    (s.setBuffer r.buffer
        { s.buffer r.buffer with telegram := storeByte n c.data (s.buffer r.buffer).telegram }).setPort p
      { s.port p with rx := .filling { r' with expected := expected, crc := crcByte r.crc c.data } }

/-- A character at the upper level of the receiver (R20 to R22, R29, R30). In the case of R30 another port's character may be
taken between the two requests to the pool: `between`, which may reset the bridge (R34). -/
def deliverCharacter (p : Port) (c : Character) (start : StartBit) (between : State → State) (s : State) : State :=
  match (s.port p).rx with
  | .search =>
    if c.framing then s.setPort p { s.port p with rx := .skip }
    else if c.mark then takeHeader p c start s
    else s.setPort p { s.port p with rx := .skip }
  | .skip => if c.framing then s else if c.mark then takeHeader p c start s else s
  | .filling r =>
    if c.framing then abortReception p .rxBroken .skip s
    else if c.mark then onLivePort p (takeHeader p c start) (between (abortReception p .rxBroken .search s))
    else storeCharacter p r c s
  | .deaf => s

/-- The transmitter goes on to its next character when its port's receiver has been delivered one (R13, R40): from character 3 on
it is SENDING (log entry 10). -/
def nextCharacter (s : State) (tx : TxState) : TxState :=
  match tx with
  | .arbitrating a =>
    if a.character + 1 < 3 then .arbitrating { a with character := a.character + 1 }
    else .sending { a with character := a.character + 1 }
  | .sending a =>
    if a.completed then .sending a
    else .sending { a with character := min (a.character + 1) (s.telegramOf a.entry).count }
  | .idle => .idle
  | .waitGap => .waitGap
  | .breaking since => .breaking since
  | .halted => .halted

/-- The line after a character whose samples are given, the last of them sample 6 of its stop bit (R5, R6, R10, R14, R18). Recessive
there, the line rests from the end of the stop bit's sample 8 on, and start search has seen up to two recessive samples. Dominant there,
the run goes on from its first dominant sample: one of the character's own, or, where the character has no recessive sample, that of the
run in which it began. -/
def lineAfterCharacter (x : LinePort) (now : Nat) (samples : List Level) : LineView :=
  let rests := trailing .recessive samples
  let runs := trailing .dominant samples
  if 1 ≤ rests then
    ⟨false, some ⟨now + 2 * x.profile.rate.sampleTicks, 0⟩, none, some ⟨now, min 2 rests⟩, false⟩
  else if runs = samples.length ∧ x.candidate.isSome then LineView.dominantFor now (x.runLength now runs)
  else LineView.dominantFor now runs

/-- A character at an open port, whole: the receiver, then the line and the transmitter. -/
def receiveCharacter (p : Port) (c : Character) (samples : List Level) (between : State → State) (s : State) : State :=
  onLivePort p (fun s' => s'.setPort p
      { s'.port p with
        candidate := none, ownStart := false
        line := lineAfterCharacter (s.port p) s.clock samples
        tx := nextCharacter s' (s'.port p).tx })
    (deliverCharacter p c (startBitOf (s.port p) s.clock) between s)

/-- Where a port's receiver stands before a sample taken now: in the candidate start bit that start search has found, or in start search
with the recessive samples it has seen before (R14). -/
def LinePort.sampleState (x : LinePort) (now : Nat) : SampleState :=
  match x.candidate with
  | some _ => .candidate []
  | none => .searching (min 2 (x.searchLength (now - 1) 0))

/-- The character a reception comes to at a port (R14 to R18); none where its samples decide none. -/
def Reception.character (x : LinePort) (now : Nat) : Reception → Option Character
  | .delivered c => some c
  | .sampled levels => characterOfSamples (x.sampleState now) levels

/-- The samples of a reception, from sample 1 of its start bit on. A delivered character is taken to have come undisturbed (DESIGN CHOICE,
log entry 9). -/
def Reception.samples (x : LinePort) : Reception → List Level
  | .delivered c => nominalSamples c
  | .sampled levels => if x.candidate.isSome then .dominant :: levels else levels

/-! ## The idle gap -/

/-- A line that has been recessive for the given number of samples, and is idle (R6). -/
def LineView.idleFor (now samples : Nat) : LineView := { LineView.recessiveFor now samples with idle := true }

/-- The idle gap at the receiver: FILLING is truncated (R31) and SKIP returns to SEARCH (R21). -/
def gapAtReceiver (p : Port) (s : State) : State :=
  match (s.port p).rx with
  | .filling _ => abortReception p .rxBroken .search s
  | .skip => s.setPort p { s.port p with rx := .search }
  | .search => s
  | .deaf => s

/-- The idle gap at the transmitter: one in WAIT_GAP begins (R39). -/
def gapAtTransmitter (p : Port) (s : State) : State :=
  match (s.port p).tx with
  | .waitGap => beginSending p s
  | .idle => s
  | .arbitrating _ => s
  | .sending _ => s
  | .breaking _ => s
  | .halted => s

/-- The idle gap, of the given number of samples (R6): the line is idle, and the event reaches the receiver and the transmitter. It is
taken only while the bridge does not drive the line itself (R38). -/
def idleGap (p : Port) (samples : Nat) (s : State) : State :=
  gapAtTransmitter p (gapAtReceiver p
    (s.setPort p { s.port p with candidate := none, ownStart := false, line := LineView.idleFor s.clock samples }))

/-! ## The end of a dominant run -/

/-- A short break, or a long break delivered as one, at its end (R11, R21, R32): FILLING is aborted. The recessive measurement
starts at the end of the run (R6). A run already declared stuck is not classified again (R10). -/
def breakEnds (p : Port) (s : State) : State :=
  if (s.port p).line.stuck then s
  else
    abortReception p .rxBroken .skip
      (s.setPort p
        { s.port p with candidate := none, ownStart := false, line := LineView.recessiveFor s.clock 0 })

/-- The end of a dominant run of normal data, of the given number of samples, outside a character (R6, R10, R18): it is not delivered
(R11), and the recessive measurement starts from this moment. Such a run ends a framing error's stop bit, or is one that start search
passes over (R14), after fewer than two recessive samples or on a line whose level no row has told. R6 lists no point for the end of a
run of normal data that was no part of a received character and no candidate: that its end is one is a DESIGN CHOICE (log entry 12). -/
def normalRunEnds (p : Port) (samples : Nat) (s : State) : State :=
  let x := s.port p
  if x.candidate.isNone && !x.line.stuck && decide (1 ≤ samples) then
    s.setPort p { x with line := LineView.recessiveFor s.clock 0 }
  else s

/-- A long break at its end (R11, R34): on the maintenance port with LRE enabled a line reset request, else a short break. -/
def longBreak (p : Port) (s : State) : State :=
  if (s.port p).line.stuck then s
  else if s.straps.maint = some p ∧ s.straps.lre = true then enterReset (.lineReset p) s
  else breakEnds p s

/-- The deliveries of a stuck line to the receiver and the transmitter (R32, R46, R58). -/
def stuckToBlocks (p : Port) (s : State) : State := endUncounted p (abortReception p .rxBroken .skip s)

/-- A stuck line declared, of the given number of samples (R58): delivered to the blocks and to the supervisor in either order. -/
def stuckLine (p : Port) (order : StuckOrder) (samples : Nat) (s : State) : State :=
  let s' := s.setPort p
    { s.port p with
      candidate := none, ownStart := false
      line := { LineView.dominantFor s.clock samples with stuck := true } }
  match order with
  | .blocksFirst => takeFault p (stuckToBlocks p s')
  | .faultFirst => onOpenPort p (stuckToBlocks p) (takeFault p s')

/-! ## What comes before a row -/

/-- The end of a run that no row has told of, where this one tells that the line had turned recessive before the given moment: the run is
classified then, by the length it reached, and delivered to the blocks that act on its class (R10, R11; log entry 12). -/
def takeMissedRun (p : Port) (upTo recessives : Nat) (s : State) : State :=
  let samples := (s.port p).missedRun upTo recessives
  match runClass samples with
  | .normalData => s
  | .shortBreak => breakEnds p s
  | .longBreak => longBreak p s
  | .stuck => stuckLine p .blocksFirst samples s

/-- The idle gap that comes before a start bit taken now, of which no candidate stands: where the recessive period before it had reached
12 bit times and no step has taken the gap, it is taken first (R5, R6; log entry 12). The row that follows ends the period. -/
def takeMissedGap (p : Port) (told : Nat) (s : State) : State :=
  let x := s.port p
  if x.candidate.isNone && x.gapMissed s.clock told then idleGap p Config.idleGapSamples s else s

/-- A row that tells of a dominant sample taken now, after the given number of recessive ones in a row, those of them that the rest counts
told as well: the end of a run and an idle gap that no step has taken come first, and then the row itself, unless a long break has reset
the bridge or a stuck line has closed the port (R5, R6, R10). -/
def afterMissed (p : Port) (recessives rest : Nat) (row : State → State) (s : State) : State :=
  onLivePort p (fun u => row (takeMissedGap p rest u)) (takeMissedRun p (s.clock - 1) recessives s)

/-! ## The rows -/

/-- A rival header of another port, in full (R30). -/
def takeRival (p : Port) (rival : Option Rival) (s : State) : State :=
  match rival with
  | some r =>
    if r.port = p then s
    else onLivePort r.port (afterMissed r.port 2 0 (receiveCharacter r.port r.char (nominalSamples r.char) id)) s
  | none => s

/-- CHARACTER_RECEIVED (R18). Where no candidate start bit was commanded for it, its start bit is taken at this moment (log entry 10),
after the two recessive samples that R14 asks for, and what no step has taken of the line before it comes first (R5, R6, R10). -/
def execCharacterReceived (p : Port) (reception : Reception) (rival : Option Rival) (s : State) : Answer :=
  whenStarted (onOpenPort p fun s =>
    match Reception.character (s.port p) s.clock reception with
    | some c => afterMissed p 2 0 (receiveCharacter p c (Reception.samples (s.port p) reception) (takeRival p rival)) s
    | none => s) s

/-- IDLE_GAP (R6, R31, R39). A recessive period short of 12 bit times is not this event, and while the bridge drives the line itself none
reaches the port: the dash in the table of 3.8 (R38; DEDUCED, log entry 4). The row tells also of the end of a run that no other has told
of, which comes first (R10). -/
def execIdleGap (rest : Stretch) (s : State) : Answer :=
  whenStarted (onOpenPort rest.port fun s =>
    let length := (s.port rest.port).restLength s.clock rest.samples
    if Config.idleGapSamples ≤ length ∧ (s.port rest.port).tx.driving = false then
      onLivePort rest.port (idleGap rest.port length) (takeMissedRun rest.port s.clock rest.samples s)
    else s) s

/-- SHORT_BREAK (R11). The row tells of the end of a run: one that R10 classes as normal data is not delivered and only ends (DESIGN
CHOICE, log entry 12), and one of a longer class is not this event. -/
def execShortBreak (p : Port) (samples : Nat) (s : State) : Answer :=
  whenStarted (onOpenPort p fun s =>
    let length := (s.port p).endedRun s.clock samples
    match runClass length with
    | .shortBreak => breakEnds p s
    | .normalData => normalRunEnds p length s
    | .longBreak => s
    | .stuck => s) s

/-- LONG_BREAK (R34). A run that R10 does not class as a long break is not this event. -/
def execLongBreak (p : Port) (samples : Nat) (s : State) : Answer :=
  whenStarted (onOpenPort p fun s =>
    if runClass ((s.port p).endedRun s.clock samples) = .longBreak then longBreak p s else s) s

/-- STUCK_LINE (R58), once in a run. A run short of 256 bit times is not this event (R10). -/
def execStuckLine (run : Stretch) (order : StuckOrder) (s : State) : Answer :=
  whenStarted (onOpenPort run.port fun s =>
    let x := s.port run.port
    let length := x.runLength s.clock run.samples
    if x.line.stuck = false ∧ runClass length = .stuck then stuckLine run.port order length s else s) s

/-- The telegram time limit expires in FILLING (R33, R57): RX_TIMEOUT, and then a TIMEOUT fault. -/
def timeLimitExpires (p : Port) (s : State) : State :=
  match (s.port p).rx with
  | .filling _ => takeFault p (abortReception p .rxTimeout .skip s)
  | .search => s
  | .skip => s
  | .deaf => s

/-- TELEGRAM_TIME_LIMIT_EXPIRY (R33). -/
def execTelegramTimeLimitExpiry (p : Port) (s : State) : Answer := whenStarted (onOpenPort p (timeLimitExpires p)) s

/-- A candidate start bit (R7, R14): the idle period ends, the recessive measurement stops, the dominant run begins, and a transmitter in
WAIT_GAP stays there. The candidate is the attempt's own start bit if that has been driven and not met yet (R23). -/
def candidateStartBit (p : Port) (s : State) : State :=
  s.setPort p
    { s.port p with
      candidate := some ⟨s.clock, (s.port p).ownStart⟩, ownStart := false, line := LineView.dominantFor s.clock 1 }

/-- A dominant sample that start search passes over (R14): it begins no candidate, but the line is dominant, the recessive measurement
stops and the idle period ends (R6). After a dominant sample the run in progress goes on, with its first moment where it was measured
from; after one recessive sample a run begins (log entry 12). -/
def passOver (p : Port) (recessives : Nat) (s : State) : State :=
  let x := s.port p
  let line :=
    match x.line.run with
    | some k =>
      if recessives = 0 then { x.line with idle := false, rest := none, run := some k, search := none }
      else LineView.dominantFor s.clock 1
    | none => LineView.dominantFor s.clock 1
  s.setPort p { x with line := line }

/-- CANDIDATE_START_BIT (R14). Outside a character a dominant sample that follows two recessive ones in a row begins a candidate, and one
that follows fewer is passed over; within a character it begins nothing. The row's own number of recessive samples decides. What no step
has taken of the line before comes first: the end of a run (R10), and a rest that had reached 12 bit times (R5, R6; log entry 12). -/
def execCandidateStartBit (found : StartFound) (s : State) : Answer :=
  whenStarted (onOpenPort found.port fun s =>
    let p := found.port
    if (s.port p).candidate.isSome then s
    else if 2 ≤ found.recessives then afterMissed p found.recessives found.rest (candidateStartBit p) s
    else afterMissed p found.recessives found.rest (passOver p found.recessives) s) s

/-- The line after a false start whose samples 2 to 4 are given: the recessive measurement begins again at the first recessive sample
after the glitch (R6, R15), or, where the last sample is dominant, a dominant run begins with it (log entry 9). -/
def lineAfterFalseStart (now : Nat) (samples : List Level) : LineView :=
  if 1 ≤ trailing .recessive samples then LineView.recessiveFor now (trailing .recessive samples)
  else LineView.dominantFor now (trailing .dominant samples)

/-- A false start (R15): the candidate is dropped, and the line is measured from the glitch. No counter, and no effect on the telegram
in reception. -/
def falseStart (p : Port) (samples : List Level) (s : State) : State :=
  s.setPort p { s.port p with candidate := none, ownStart := false, line := lineAfterFalseStart s.clock samples }

/-- FALSE_START (R15). Samples that confirm a start bit are not this event. Where no candidate start bit stands the spec has no such event:
the row then tells also of the candidate that it drops, which begins at this moment after two recessive samples, and what no step has
taken of the line before comes first (DESIGN CHOICE, log entry 10). -/
def execFalseStart (p : Port) (second third fourth : Level) (s : State) : Answer :=
  whenStarted (onOpenPort p fun s =>
    if startOutcome second third fourth = .dropped then afterMissed p 2 0 (falseStart p [second, third, fourth]) s else s) s

/-- The end of a run declared stuck (R10): it is not classified, and the recessive measurement starts from this moment. -/
def stuckRunEnd (p : Port) (s : State) : State :=
  if (s.port p).line.stuck then s.setPort p { s.port p with line := LineView.recessiveFor s.clock 0 } else s

/-- STUCK_RUN_END (R10). -/
def execStuckRunEnd (p : Port) (s : State) : Answer := whenStarted (onOpenPort p (stuckRunEnd p)) s

end Sys2Proof.Machine
end

