-- ==== Sys2Proof/Machine/StoreEvents.lean ====
section
/-! DEFINITION. Completions at the Store Controller (R132 to R137). -/

namespace Sys2Proof.Machine

/-- After a PROGRAM or RETIRE (R132): a waiting operation starts, as a continuation if its slot lies in the open segment; with
nothing waiting the segment is closed. -/
def startWaiting (now : Nat) (c : StoreController) : StoreController :=
  match c.waiting with
  | some w =>
    { c with
      running := some ⟨.slot w, now, now, decide (c.openSegment = some w.segment)⟩
      waiting := none, openSegment := some w.segment }
  | none => { c with running := none, openSegment := none }

/-- The hit counter of a slot set to 0; slots 240 to 255 have none (R100, R133). -/
def clearHit (hits : Vector Count 240) (slot : Byte) : Vector Count 240 :=
  if h : slot.toNat < 240 then hits.set slot.toNat 0 h else hits

/-- A slot retired (R134): its record stays. -/
def Slot.retire : Slot → Slot
  | .written i => .retired i
  | .blank => .blank
  | .retired i => .retired i
  | .torn => .torn

/-- PROGRAM_COMPLETION (R133). -/
def programCompletes (s : State) : State :=
  match s.ctrl.running with
  | some ⟨.slot (.program slot image), _, _, _⟩ =>
    { s with
      store := { s.store with slots := s.store.slots.set slot.toFin (.written image) }
      hits := clearHit s.hits slot
      ctrl := startWaiting s.clock s.ctrl }
  | _ => s

/-- PROGRAM_COMPLETION (R133). -/
def execProgramCompletion (s : State) : Answer := whenStarted programCompletes s

/-- RETIRE_COMPLETION (R134). -/
def retireCompletes (s : State) : State :=
  match s.ctrl.running with
  | some ⟨.slot (.retire slot), _, _, _⟩ =>
    { s with
      store := { s.store with slots := s.store.slots.set slot.toFin (s.store.slot slot).retire }
      ctrl := startWaiting s.clock s.ctrl }
  | _ => s

/-- RETIRE_COMPLETION (R134). -/
def execRetireCompletion (s : State) : Answer := whenStarted retireCompletes s

/-- A segment erased: its slots BLANK, its mark written, its hit counters 0, its quarantine lifted (R91, R135, R136). -/
def segmentErased (g : Segment) (s : State) : State :=
  { s with
    store := s.store.eraseSegment g
    hits := clearHits s.hits g
    ctrl := { s.ctrl with quarantined := s.ctrl.quarantined.set g false } }

/-- The running operation of the controller replaced. -/
def State.setRunning (s : State) (r : Option Running) : State := { s with ctrl := { s.ctrl with running := r } }

/-- ERASE_SEGMENT_COMPLETION (R135). -/
def eraseSegmentCompletes (s : State) : State :=
  match s.ctrl.running with
  | some ⟨.eraseSegment g, _, _, _⟩ => (segmentErased g s).setRunning none
  | _ => s

/-- ERASE_SEGMENT_COMPLETION (R135). -/
def execEraseSegmentCompletion (s : State) : Answer := whenStarted eraseSegmentCompletes s

/-- The segment after another, if any (R136). -/
def nextSegment (g : Segment) : Option Segment := if h : g.val + 1 < 16 then some ⟨g.val + 1, h⟩ else none

/-- SEGMENT_ERASE_STEP (R136): the current segment is erased and the busy mark passes on, to a segment whose time is measured from
now while the operation keeps its start time (R120); segment 15 completes the operation. -/
def eraseStep (s : State) : State :=
  match s.ctrl.running with
  | some ⟨.eraseAll target g, start, _, continued⟩ =>
    (segmentErased g s).setRunning ((nextSegment g).map fun h => ⟨.eraseAll target h, start, s.clock, continued⟩)
  | some ⟨.wipe target g, start, _, continued⟩ =>
    (segmentErased g s).setRunning ((nextSegment g).map fun h => ⟨.wipe target h, start, s.clock, continued⟩)
  | _ => s

/-- SEGMENT_ERASE_STEP (R136). -/
def execSegmentEraseStep (s : State) : Answer := whenStarted eraseStep s

/-- Whether a slot reads BLANK. -/
def readsBlank (s : State) (slot : Byte) : Bool :=
  match s.readSlot slot with
  | .blank => true
  | .written _ => false
  | .retired _ => false
  | .torn => false

/-- Whether every slot reads BLANK and every mark is present (R137). -/
def storeIsBlank (s : State) : Bool :=
  (List.finRange 256).all (fun i => readsBlank s (BitVec.ofFin i))
    && (List.finRange 16).all fun g => s.store.marks[g]

/-- BLANK_CHECK_COMPLETION (R137): BLANK_RESULT is set, and BLANK opens the access level. -/
def blankCheckCompletes (s : State) : State :=
  match s.ctrl.running with
  | some ⟨.blankCheck _, _, _, _⟩ =>
    { s with
      ctrl := { s.ctrl with running := none, blankResult := if storeIsBlank s then .blank else .notBlank }
      mgmt := if storeIsBlank s then { s.mgmt with level := .open } else s.mgmt }
  | _ => s

/-- BLANK_CHECK_COMPLETION (R137). -/
def execBlankCheckCompletion (s : State) : Answer := whenStarted blankCheckCompletes s

end Sys2Proof.Machine
end

