-- ==== Sys2Proof/Machine/Transmission.lean ====
section
/-! DEFINITION. The transmitter's events: failed attempts, drive faults, completions, the end of a break, hold deadlines. -/

namespace Sys2Proof.Machine

/-- ARBITRATION_LOST (R42): only an attempt within characters 1 and 2 can lose arbitration. -/
def arbitrationLost (p : Port) (s : State) : State :=
  match (s.port p).tx with
  | .arbitrating a => if a.completed then s else failAttempt p .txArbLost a s
  | .sending _ => s
  | .idle => s
  | .waitGap => s
  | .breaking _ => s
  | .halted => s

/-- ARBITRATION_LOST (R42). -/
def execArbitrationLost (p : Port) (s : State) : Answer := whenStarted (onOpenPort p (arbitrationLost p)) s

/-- COLLISION (R43): in ARBITRATING it falls on the stop bit of character 2, which lies after the arbitration span (R41). -/
def collide (p : Port) (s : State) : State :=
  match (s.port p).tx with
  | .arbitrating a => if a.completed then s else failAttempt p .txCollision a s
  | .sending a => if a.completed then s else failAttempt p .txCollision a s
  | .idle => s
  | .waitGap => s
  | .breaking _ => s
  | .halted => s

/-- COLLISION (R43). -/
def execCollision (p : Port) (s : State) : Answer := whenStarted (onOpenPort p (collide p)) s

/-- The line at a drive fault. Where no row has told that the line turned dominant with the port's own start bit or break, the line has
stayed recessive, and the recessive period toward the next idle gap begins at this moment. R6 lists no such point: DESIGN CHOICE (log
entry 19). -/
def LineView.atDriveFault (line : LineView) (now : Nat) : LineView :=
  if line.rest.isNone && line.run.isNone then { line with rest := some ⟨now, 0⟩ } else line

/-- DRIVE_FAULT (R45, R59): the attempt or break ends uncounted, and then a DRIVE fault is taken. The line is measured again from this
moment where it never turned dominant (log entry 19). -/
def driveFault (p : Port) (s : State) : State :=
  if (s.port p).tx.driving then
    takeFault p (endUncounted p (s.setPort p { s.port p with line := (s.port p).line.atDriveFault s.clock }))
  else s

/-- DRIVE_FAULT (R45). -/
def execDriveFault (p : Port) (s : State) : Answer := whenStarted (onOpenPort p (driveFault p)) s

/-- An attempt completes (R47): probation ends; the entry awaits its echo verdict, or leaves at once with nothing counted where the
receiver holds no own capture (R48). -/
def completeAttempt (p : Port) (a : Attempt) (s : State) : State :=
  let s' := endProbation p s
  if (s.port p).rx.holdsOwn then s'.setPort p { s'.port p with tx := .sending { a with completed := true } }
  else restTransmitter p (removeHead p s')

/-- ATTEMPT_COMPLETION (R47). It ends an attempt of either sending state (log entry 10). -/
def attemptCompletion (p : Port) (s : State) : State :=
  match (s.port p).tx with
  | .arbitrating a => if a.completed then s else completeAttempt p a s
  | .sending a => if a.completed then s else completeAttempt p a s
  | .idle => s
  | .waitGap => s
  | .breaking _ => s
  | .halted => s

/-- ATTEMPT_COMPLETION (R47). -/
def execAttemptCompletion (p : Port) (s : State) : Answer := whenStarted (onOpenPort p (attemptCompletion p)) s

/-- The end of a break (R53): WAIT_GAP with work, IDLE without. -/
def breakEnd (p : Port) (s : State) : State :=
  match (s.port p).tx with
  | .breaking _ => restTransmitter p s
  | .arbitrating _ => s
  | .sending _ => s
  | .idle => s
  | .waitGap => s
  | .halted => s

/-- BREAK_END (R53). -/
def execBreakEnd (p : Port) (s : State) : Answer := whenStarted (onOpenPort p (breakEnd p)) s

/-- Whether the entry that names a buffer is the entry being sent (R37). -/
def beingSent (x : LinePort) (ref : BufferRef) : Bool :=
  match x.tx.attempt with
  | some a => decide (a.entry = ref)
  | none => false

/-- A transmitter in WAIT_GAP whose work is all gone returns to IDLE (R38, R50). -/
def workGone (p : Port) (s : State) : State :=
  match (s.port p).tx with
  | .waitGap => if (s.port p).hasWork then s else s.setPort p { s.port p with tx := .idle }
  | .idle => s
  | .arbitrating _ => s
  | .sending _ => s
  | .breaking _ => s
  | .halted => s

/-- The deadline of a waiting entry expires (R50): DROP_STALE, and the entry leaves from wherever it stands. -/
def entryExpires (p : Port) (ref : BufferRef) (s : State) : State :=
  let x := s.port p
  if x.queue.any (fun e => e.ref == ref) && !beingSent x ref then
    let s' := s.count p .dropStale
    workGone p
      ((s'.setPort p { s'.port p with queue := x.queue.filter fun e => e.ref != ref }).release ref)
  else s

/-- ENTRY_DEADLINE_EXPIRY (R50). -/
def execEntryDeadlineExpiry (p : Port) (ref : BufferRef) (s : State) : Answer :=
  whenStarted (onOpenPort p (entryExpires p ref)) s

/-- The deadline of the entry being sent expires (R51): the expired mark is set; after completion it has no effect. -/
def attemptExpires (p : Port) (s : State) : State :=
  match (s.port p).tx with
  | .arbitrating a =>
    if a.completed then s else s.setPort p { s.port p with tx := .arbitrating { a with expired := true } }
  | .sending a =>
    if a.completed then s else s.setPort p { s.port p with tx := .sending { a with expired := true } }
  | .idle => s
  | .waitGap => s
  | .breaking _ => s
  | .halted => s

/-- DEADLINE_EXPIRY_DURING_ATTEMPT (R51). -/
def execDeadlineExpiryDuringAttempt (p : Port) (s : State) : Answer := whenStarted (onOpenPort p (attemptExpires p)) s

end Sys2Proof.Machine
end

