-- ==== Sys2Proof/Machine/Dispatch.lean ====
section
/-! DEFINITION. The meaning of each command, one arm per constructor of Instr. -/

namespace Sys2Proof.Machine

def exec (i : Instr) (s : State) : Host.Outcome State Fault Refusal :=
  match i with
  | .characterReceived p reception rival => Sys2Proof.Machine.execCharacterReceived p reception rival s
  | .idleGap rest => Sys2Proof.Machine.execIdleGap rest s
  | .shortBreak p samples => Sys2Proof.Machine.execShortBreak p samples s
  | .longBreak p samples => Sys2Proof.Machine.execLongBreak p samples s
  | .stuckLine run order => Sys2Proof.Machine.execStuckLine run order s
  | .telegramTimeLimitExpiry p => Sys2Proof.Machine.execTelegramTimeLimitExpiry p s
  | .arbitrationLost p => Sys2Proof.Machine.execArbitrationLost p s
  | .collision p => Sys2Proof.Machine.execCollision p s
  | .driveFault p => Sys2Proof.Machine.execDriveFault p s
  | .attemptCompletion p => Sys2Proof.Machine.execAttemptCompletion p s
  | .breakEnd p => Sys2Proof.Machine.execBreakEnd p s
  | .entryDeadlineExpiry p ref => Sys2Proof.Machine.execEntryDeadlineExpiry p ref s
  | .deadlineExpiryDuringAttempt p => Sys2Proof.Machine.execDeadlineExpiryDuringAttempt p s
  | .classification => Sys2Proof.Machine.execClassification s
  | .status ingress source => Sys2Proof.Machine.execStatus ingress source s
  | .readEntry ingress source slot => Sys2Proof.Machine.execReadEntry ingress source slot s
  | .readPortCounters ingress source port group => Sys2Proof.Machine.execReadPortCounters ingress source port group s
  | .clearCounters ingress source port => Sys2Proof.Machine.execClearCounters ingress source port s
  | .stage ingress source target image => Sys2Proof.Machine.execStage ingress source target image s
  | .program ingress source echo => Sys2Proof.Machine.execProgram ingress source echo s
  | .retire ingress source echo => Sys2Proof.Machine.execRetire ingress source echo s
  | .eraseSegment ingress source echo => Sys2Proof.Machine.execEraseSegment ingress source echo s
  | .eraseAll ingress source echo => Sys2Proof.Machine.execEraseAll ingress source echo s
  | .wipe ingress source echo => Sys2Proof.Machine.execWipe ingress source echo s
  | .blankCheck ingress source echo => Sys2Proof.Machine.execBlankCheck ingress source echo s
  | .abortStage ingress source => Sys2Proof.Machine.execAbortStage ingress source s
  | .clearStoreFlags ingress source => Sys2Proof.Machine.execClearStoreFlags ingress source s
  | .raiseProtection ingress source segment => Sys2Proof.Machine.execRaiseProtection ingress source segment s
  | .unlock ingress source code => Sys2Proof.Machine.execUnlock ingress source code s
  | .restore ingress source port => Sys2Proof.Machine.execRestore ingress source port s
  | .disable ingress source port => Sys2Proof.Machine.execDisable ingress source port s
  | .enable ingress source port => Sys2Proof.Machine.execEnable ingress source port s
  | .sendBreak ingress source port => Sys2Proof.Machine.execSendBreak ingress source port s
  | .restart ingress source => Sys2Proof.Machine.execRestart ingress source s
  | .unknownCommand ingress source payload => Sys2Proof.Machine.execUnknownCommand ingress source payload s
  | .programCompletion => Sys2Proof.Machine.execProgramCompletion s
  | .retireCompletion => Sys2Proof.Machine.execRetireCompletion s
  | .eraseSegmentCompletion => Sys2Proof.Machine.execEraseSegmentCompletion s
  | .segmentEraseStep => Sys2Proof.Machine.execSegmentEraseStep s
  | .blankCheckCompletion => Sys2Proof.Machine.execBlankCheckCompletion s
  | .restartReset => Sys2Proof.Machine.execRestartReset s
  | .powerOn => Sys2Proof.Machine.execPowerOn s
  | .resetPin => Sys2Proof.Machine.execResetPin s
  | .startUp straps => Sys2Proof.Machine.execStartUp straps s
  | .candidateStartBit found => Sys2Proof.Machine.execCandidateStartBit found s
  | .falseStart p second third fourth => Sys2Proof.Machine.execFalseStart p second third fourth s
  | .stuckRunEnd p => Sys2Proof.Machine.execStuckRunEnd p s
  | .executeUnknownOperation ingress source operation echo => Sys2Proof.Machine.execExecuteUnknownOperation ingress source operation echo s
  | .portControlUnknownAction ingress source port action => Sys2Proof.Machine.execPortControlUnknownAction ingress source port action s

end Sys2Proof.Machine
end

