-- ==== Sys2Proof/Machine/Timing.lean ====
section
/-! DEFINITION. What the bridge does of itself while no command waits: which of its own events is due, and the passing of time (log entry 3). -/

namespace Sys2Proof.Machine

/-- How long an operation, or for ERASE ALL and WIPE one of its segments, takes in microseconds (R132). -/
def Running.micros (r : Running) : Nat :=
  match r.work with
  | .slot _ => if r.continued then Config.continuationMicros else Config.openingMicros
  | .eraseSegment _ => Config.eraseSegmentMicros
  | .eraseAll _ _ => Config.eraseStepMicros
  | .wipe _ _ => Config.eraseStepMicros
  | .blankCheck _ => Config.blankCheckMicros

/-- The row that completes an operation, or its current segment (R133 to R137). -/
def Work.completion : Work → Instr
  | .slot (.program _ _) => .programCompletion
  | .slot (.retire _) => .retireCompletion
  | .eraseSegment _ => .eraseSegmentCompletion
  | .eraseAll _ _ => .segmentEraseStep
  | .wipe _ _ => .segmentEraseStep
  | .blankCheck _ => .blankCheckCompletion

/-- The completion of the running operation, or of its segment, once its duration has passed (R132). -/
def storeDue (s : State) : Option Instr :=
  match s.ctrl.running with
  | some r => if r.since + r.micros * Config.ticksPerMicro ≤ s.clock then some r.work.completion else none
  | none => none

/-- Whether a number of bit times at a rate, of eight samples each, has passed from a moment (R1, R14). -/
def bitTimesPassed (rate : BitRate) (bits since now : Nat) : Bool := decide (bits * 8 * rate.sampleTicks ≤ now - since)

/-- The telegram time limit of a port, once it has expired (R33, R57). -/
def limitDue (p : Port) (s : State) : Option Instr :=
  match (s.port p).rx with
  | .filling r =>
    if bitTimesPassed (s.port p).profile.rate (s.port p).profile.timeLimit r.limitFrom s.clock then
      some (.telegramTimeLimitExpiry p)
    else none
  | .search => none
  | .skip => none
  | .deaf => none

/-- The end of a port's break, once its 16 bit times have passed (R53). -/
def breakDue (p : Port) (s : State) : Option Instr :=
  match (s.port p).tx with
  | .breaking since =>
    if bitTimesPassed (s.port p).profile.rate Config.breakBits since s.clock then some (.breakEnd p) else none
  | .idle => none
  | .waitGap => none
  | .arbitrating _ => none
  | .sending _ => none
  | .halted => none

/-- The deadline of the entry being sent, once it has expired during its attempt and has not been marked (R51). -/
def attemptDue (p : Port) (s : State) : Option Instr :=
  match (s.port p).tx.attempt, (s.port p).queue with
  | some a, e :: _ =>
    if e.deadline ≤ s.clock && !a.completed && !a.expired then some (.deadlineExpiryDuringAttempt p) else none
  | _, _ => none

/-- The first waiting entry of a port whose deadline has expired (R50). -/
def entryDue (p : Port) (s : State) : Option Instr :=
  ((s.port p).queue.find? fun e => decide (e.deadline ≤ s.clock) && !beingSent (s.port p) e.ref).map
    fun e => .entryDeadlineExpiry p e.ref

/-- The idle gap of an open port outside a character, once a line that the bridge does not drive has been recessive for 12 bit times (R6,
R38). -/
def gapDue (p : Port) (s : State) : Option Instr :=
  let x := s.port p
  if x.mode.isOpen && x.candidate.isNone && x.gapReached s.clock then some (.idleGap ⟨p, Config.idleGapSamples⟩) else none

/-- The stuck line of an open port outside a character, once the line has been dominant for 256 bit times (R10, R58). -/
def stuckDue (p : Port) (s : State) : Option Instr :=
  let x := s.port p
  if x.mode.isOpen && x.candidate.isNone && x.stuckReached s.clock then some (.stuckLine ⟨p, Config.stuckSamples⟩ .blocksFirst)
  else none

/-- What is due at a port. Between two rows the line keeps the level that the last one told of (log entry 12). -/
def portDue (p : Port) (s : State) : Option Instr :=
  limitDue p s <|> breakDue p s <|> attemptDue p s <|> entryDue p s <|> gapDue p s <|> stuckDue p s

/-- The end of a reset by a line reset request or a RESTART, which the part ends at once (R142, R159), with the strap inputs as they
were latched last; the end of another is the supply's or the pin's to give (log entry 13). -/
def startUpDue (s : State) : Option Instr :=
  match s.record.cause with
  | .lineReset _ => some (.startUp s.straps)
  | .restart => some (.startUp s.straps)
  | .powerOn => none
  | .resetPin => none

/-- The event of the bridge's own that is taken next, if one is due. Where several are due at one moment, the spec lets any be
taken first; the order here is a DESIGN CHOICE, and commands can bring about every other (log entry 3). -/
def dueEvent (s : State) : Option Instr :=
  match s.phase with
  | .inReset => startUpDue s
  | .started =>
    if restartDue s then some .restartReset
    else if s.classQueue ≠ [] then some .classification
    else storeDue s <|> portDue .a s <|> portDue .b s <|> portDue .c s

/-- One tick of the clock passes. -/
def tick (s : State) : State := { s with clock := s.clock + 1 }

end Sys2Proof.Machine
end

