-- ==== Sys2Proof/Machine/Step.lean ====
section
/-! DEFINITION. One step of the bridge: the command at the front of the queue, or, on an empty queue, the bridge's own due event or the passing of time. -/

namespace Sys2Proof.Machine

/-- One step. With a command waiting it is that command's effect, with the rest of the queue kept. On an empty queue the bridge
takes its own due event, or a tick of the clock passes (log entry 3). -/
def step (s : State) : Host.Outcome State Fault Refusal :=
  match s.pending with
  | c :: rest => exec c { s with pending := rest }
  | [] =>
    match dueEvent s with
    | some c => exec c s
    | none => .next (tick s)

/-- The command a table word spells, put at the front of the queue; the state unchanged where it spells none (log entry 1). -/
def State.withFetchWord (s : State) (nbits w : Nat) : State :=
  match decodeTableWord nbits w with
  | some c => { s with pending := c :: s.pending }
  | none => s

end Sys2Proof.Machine
end

