-- ==== Sys2Proof/WellFormed.lean ====
section
/-! DEFINITION. The checks on a command's operands: which terms of Instr are the events their rows name. -/

namespace Sys2Proof

open Sys2Proof.Machine

/-- Whether a reception spells a character: as delivered always, as samples where they decide one from sample 2 of a candidate start bit
on, or from sample 1 of a start bit that follows two recessive samples (R14 to R18). -/
def Reception.wellFormed : Reception → Bool
  | .delivered _ => true
  | .sampled levels =>
    (characterOfSamples (.candidate []) levels).isSome || (characterOfSamples (.searching 2) levels).isSome

/-- Whether a rival of R30 is another port's mark character, so that it asks the pool for a buffer. -/
def rivalWellFormed (p : Port) : Option Rival → Bool
  | none => true
  | some r => decide (r.port ≠ p) && r.char.mark && !r.char.framing

/-- Whether a command is the event that its row of the opcode table names. The meanings of the rows go by bytes and lengths and
give a term that fails this check the effect of what it really spells, or none (log entry 4). -/
def Instr.wellFormed : Instr → Bool
  | .characterReceived p reception rival => reception.wellFormed && rivalWellFormed p rival
  | .shortBreak _ samples => decide (runClass samples = .shortBreak)
  | .longBreak _ samples => decide (runClass samples = .longBreak)
  | .falseStart _ second third fourth => decide (startOutcome second third fourth = .dropped)
  | .unknownCommand _ _ payload => decide (payload.length ≤ 31) && !payloadKnown payload
  | .executeUnknownOperation _ _ operation _ => (operationOf operation).isNone
  | .portControlUnknownAction _ _ _ action => (actionOf action).isNone
  | .idleGap rest => decide (Config.idleGapSamples ≤ rest.samples)
  | .stuckLine run _ => decide (runClass run.samples = .stuck)
  | .telegramTimeLimitExpiry _ => true
  | .arbitrationLost _ => true
  | .collision _ => true
  | .driveFault _ => true
  | .attemptCompletion _ => true
  | .breakEnd _ => true
  | .entryDeadlineExpiry _ _ => true
  | .deadlineExpiryDuringAttempt _ => true
  | .classification => true
  | .status _ _ => true
  | .readEntry _ _ _ => true
  | .readPortCounters _ _ _ _ => true
  | .clearCounters _ _ _ => true
  | .stage _ _ _ _ => true
  | .program _ _ _ => true
  | .retire _ _ _ => true
  | .eraseSegment _ _ _ => true
  | .eraseAll _ _ _ => true
  | .wipe _ _ _ => true
  | .blankCheck _ _ _ => true
  | .abortStage _ _ => true
  | .clearStoreFlags _ _ => true
  | .raiseProtection _ _ _ => true
  | .unlock _ _ _ => true
  | .restore _ _ _ => true
  | .disable _ _ _ => true
  | .enable _ _ _ => true
  | .sendBreak _ _ _ => true
  | .restart _ _ => true
  | .programCompletion => true
  | .retireCompletion => true
  | .eraseSegmentCompletion => true
  | .segmentEraseStep => true
  | .blankCheckCompletion => true
  | .restartReset => true
  | .powerOn => true
  | .resetPin => true
  | .startUp _ => true
  | .candidateStartBit found => decide (2 ≤ found.recessives) && decide (found.rest ≤ found.recessives)
  | .stuckRunEnd _ => true

end Sys2Proof
end

