-- ==== Sys2Proof/Safety.lean ====
section
/-! DEFINITION. What the statements speak of beside the machine: runs of several commands, what a change leaves alone, and the conditions that hold of the bridge between any two steps. -/

namespace Sys2Proof.Machine

/-! ## Runs and frames -/

/-- The effects of several commands one after another, up to the first that is not answered with a next state. -/
def execAll : List Instr → State → Answer
  | [], s => .next s
  | c :: rest, s =>
    match exec c s with
    | .next t => execAll rest t
    | .fault e => .fault e
    | .refused r => .refused r

/-- A started bridge whose port is open: what every event on a line needs to reach its port (R56, R142). -/
def Live (s : State) (p : Port) : Prop := s.phase = .started ∧ (s.port p).mode.isOpen = true

/-- A measurement of a port's line has reached a number of samples, eight to a bit time of the port's rate (R1, R14, R18): in ticks, of
which a second has 192000000. -/
def Reached (s : State) (p : Port) (samples : Nat) (m : Option Measure) : Prop :=
  ∃ k, m = some k
    ∧ samples * 192000000 ≤ k.taken * 192000000 + (s.clock - k.since) * (8 * (s.port p).profile.rate.hertz)

/-- The same of the samples taken before this moment: those reached a tick ago. -/
def ReachedBefore (s : State) (p : Port) (samples : Nat) (m : Option Measure) : Prop :=
  Reached { s with clock := s.clock - 1 } p samples m

/-- A rest of 12 bit times before a dominant sample taken now, told of by the row of that sample or, on a line known to be recessive,
measured, whose idle gap no step has taken; the bridge does not drive the line (R5, R6, R38). -/
def GapMissed (s : State) (p : Port) (told : Nat) : Prop :=
  let x := s.port p
  x.line.idle = false ∧ x.tx.driving = false
    ∧ (96 ≤ told ∨ (x.line.run = none ∧ ReachedBefore s p 96 x.line.rest))

/-- The dominant run that a port's line is known to make had ended by now at a number of samples, where a row tells of the given number
of recessive samples behind it: what is measured without those, and at least what rows have told of it (R10, R18). A run declared stuck is
not classified again. -/
def RunEnded (s : State) (p : Port) (recessives samples : Nat) : Prop :=
  let line := (s.port p).line
  1 ≤ recessives ∧ (s.port p).candidate = none ∧ line.rest = none ∧ line.stuck = false
    ∧ ∃ k, line.run = some k ∧ k.taken ≤ samples ∧ (samples = k.taken ∨ Reached s p (samples + recessives) line.run)
      ∧ ¬ Reached s p (samples + recessives + 1) line.run

/-- The same where the row's own sample, taken now, is dominant: the recessive samples stand before it. -/
def RunEndedBefore (s : State) (p : Port) (recessives samples : Nat) : Prop :=
  RunEnded { s with clock := s.clock - 1 } p recessives samples

/-- Nothing of the line before it comes first where a port's next character ends: its candidate start bit stands, or neither an idle gap
nor a run of 11 or more bit times before its start bit was missed (R5, R10). -/
def NothingFirst (s : State) (p : Port) : Prop :=
  (s.port p).candidate ≠ none ∨ (¬ GapMissed s p 0 ∧ ∀ samples, RunEndedBefore s p 2 samples → samples < 88)

/-- A port's dominant run replaced, or dropped. -/
def State.withRun (s : State) (p : Port) (run : Option Measure) : State :=
  s.setPort p { s.port p with line := { (s.port p).line with run := run } }

/-- An event of a port's own is due: the telegram time limit (R33, R57), the 16 bit times of a break (R53), the deadline of the entry
being sent, not yet marked (R51), the deadline of a waiting entry (R50), the 12 bit times of an idle gap on a line that the bridge does
not drive (R6, R38) or the 256 of a stuck line (R10), both on a line whose level is known and outside a character. -/
def Overdue (s : State) (p : Port) (c : Instr) : Prop :=
  let x := s.port p
  let passed (bits since : Nat) : Prop := bits * 192000000 ≤ (s.clock - since) * x.profile.rate.hertz
  let watched := x.mode.isOpen = true ∧ x.candidate = none
  (c = .telegramTimeLimitExpiry p ∧ ∃ r, x.rx = .filling r ∧ passed x.profile.timeLimit r.limitFrom)
    ∨ (c = .breakEnd p ∧ ∃ since, x.tx = .breaking since ∧ passed 16 since)
    ∨ (c = .deadlineExpiryDuringAttempt p ∧ ∃ a e rest, x.tx.attempt = some a ∧ x.queue = e :: rest ∧ a.completed = false
        ∧ a.expired = false ∧ e.deadline ≤ s.clock)
    ∨ (∃ e, e ∈ x.queue ∧ c = .entryDeadlineExpiry p e.ref ∧ e.deadline ≤ s.clock
        ∧ ∀ a, x.tx.attempt = some a → a.entry ≠ e.ref)
    ∨ (c = .idleGap ⟨p, 96⟩ ∧ watched ∧ x.line.idle = false ∧ x.tx.driving = false ∧ x.line.run = none
        ∧ Reached s p 96 x.line.rest)
    ∨ (c = .stuckLine ⟨p, 2048⟩ .blocksFirst ∧ watched ∧ x.line.stuck = false ∧ x.line.rest = none ∧ Reached s p 2048 x.line.run)

/-- A counter of a port as it stands (R84). -/
def State.counter (s : State) (p : Port) (c : CounterName) : Count := (s.port p).counters.read c

/-- Nothing but one port has changed. -/
def OnlyPort (p : Port) (s t : State) : Prop := t = s.setPort p (t.port p)

/-- Nothing but one port, the pool and the Reply Buffer with its unit state has changed: all that an event of a line can reach when
it puts no telegram into the Classification Queue and causes no reset. -/
def OnlyLine (p : Port) (s t : State) : Prop :=
  t = { s with
    ports := s.ports.set p (t.port p), pool := t.pool
    mgmt := { s.mgmt with unit := t.mgmt.unit, reply := t.mgmt.reply, replyPort := t.mgmt.replyPort } }

/-- The same, and the Classification Queue, to which a completed telegram is appended. -/
def OnlyReception (p : Port) (s t : State) : Prop := OnlyLine p { s with classQueue := t.classQueue } t

/-- What a port keeps through an event that only its receiver, its transmitter and its line's measurements answer to: its state, its
queue, its profile, its pending break. -/
def LinePort.SameDuties (x y : LinePort) : Prop :=
  y.mode = x.mode ∧ y.queue = x.queue ∧ y.profile = x.profile ∧ y.breakPending = x.breakPending

/-- A port's state after a report that ends probation (R61). -/
def PortMode.afterReport (m : PortMode) : PortMode := if m = .recovering then .running else m

/-- A receiver with its own-capture mark withdrawn (R23). -/
def RxState.unmarked : RxState → RxState
  | .filling r => .filling { r with own := false }
  | .search => .search
  | .skip => .skip
  | .deaf => .deaf

/-- The state of a transmitter whose attempt or break has ended (R38). -/
def restState (work : Bool) : TxState := if work then .waitGap else .idle

/-- The entry at the head of a port's queue has left it, and its reference has been released (R49): what is left of the queue, the
pool and the Reply Buffer. -/
def HeadGone (p : Port) (e : EgressEntry) (rest : List EgressEntry) (s t : State) : Prop :=
  (t.port p).queue = rest ∧ t.pool = (s.release e.ref).pool ∧ t.mgmt = (s.release e.ref).mgmt

/-! ## Management commands -/

/-- A row that is a management command, with what R106 hands over: the ingress port, the source address, the command. -/
def commandOf : Instr → Option (Port × Byte × MgmtCommand)
  | .status p src => some (p, src, .status)
  | .readEntry p src slot => some (p, src, .readEntry slot)
  | .readPortCounters p src port group => some (p, src, .readPortCounters port group)
  | .clearCounters p src port => some (p, src, .clearCounters port)
  | .stage p src target image => some (p, src, .stage target image)
  | .program p src echo => some (p, src, .execute 1 echo)
  | .retire p src echo => some (p, src, .execute 2 echo)
  | .eraseSegment p src echo => some (p, src, .execute 3 echo)
  | .eraseAll p src echo => some (p, src, .execute 4 echo)
  | .wipe p src echo => some (p, src, .execute 5 echo)
  | .blankCheck p src echo => some (p, src, .execute 6 echo)
  | .abortStage p src => some (p, src, .abortStage)
  | .clearStoreFlags p src => some (p, src, .clearStoreFlags)
  | .raiseProtection p src segment => some (p, src, .raiseProtection segment)
  | .unlock p src code => some (p, src, .unlock code)
  | .restore p src port => some (p, src, .portControl port 1)
  | .disable p src port => some (p, src, .portControl port 2)
  | .enable p src port => some (p, src, .portControl port 3)
  | .sendBreak p src port => some (p, src, .sendBreak port)
  | .restart p src => some (p, src, .restart)
  | .unknownCommand p src payload => some (p, src, decodePayload payload)
  | .executeUnknownOperation p src operation echo => some (p, src, .execute operation echo)
  | .portControlUnknownAction p src port action => some (p, src, .portControl port action)
  | .characterReceived _ _ _ => none
  | .idleGap _ => none
  | .shortBreak _ _ => none
  | .longBreak _ _ => none
  | .stuckLine _ _ => none
  | .telegramTimeLimitExpiry _ => none
  | .arbitrationLost _ => none
  | .collision _ => none
  | .driveFault _ => none
  | .attemptCompletion _ => none
  | .breakEnd _ => none
  | .entryDeadlineExpiry _ _ => none
  | .deadlineExpiryDuringAttempt _ => none
  | .classification => none
  | .programCompletion => none
  | .retireCompletion => none
  | .eraseSegmentCompletion => none
  | .segmentEraseStep => none
  | .blankCheckCompletion => none
  | .restartReset => none
  | .powerOn => none
  | .resetPin => none
  | .startUp _ => none
  | .candidateStartBit _ => none
  | .falseStart _ _ _ _ => none
  | .stuckRunEnd _ => none

/-- The payload that a tool sends for a management row, from the tables of 11.2; none for any other row. -/
def payloadOf : Instr → Option (List Byte)
  | .status _ _ => some [0x01]
  | .readEntry _ _ slot => some [0x02, slot]
  | .readPortCounters _ _ port group => some [0x03, port, group]
  | .clearCounters _ _ port => some [0x04, port]
  | .stage _ _ target none => some [0x10, target]
  | .stage _ _ target (some image) => some ([0x10, target] ++ image.toList)
  | .program _ _ echo => some [0x11, 1, echo]
  | .retire _ _ echo => some [0x11, 2, echo]
  | .eraseSegment _ _ echo => some [0x11, 3, echo]
  | .eraseAll _ _ echo => some [0x11, 4, echo]
  | .wipe _ _ echo => some [0x11, 5, echo]
  | .blankCheck _ _ echo => some [0x11, 6, echo]
  | .executeUnknownOperation _ _ operation echo => some [0x11, operation, echo]
  | .abortStage _ _ => some [0x12]
  | .clearStoreFlags _ _ => some [0x13]
  | .raiseProtection _ _ segment => some [0x14, segment]
  | .unlock _ _ code => some (0x20 :: code.toList)
  | .restore _ _ port => some [0x21, port, 1]
  | .disable _ _ port => some [0x21, port, 2]
  | .enable _ _ port => some [0x21, port, 3]
  | .portControlUnknownAction _ _ port action => some [0x21, port, action]
  | .sendBreak _ _ port => some [0x22, port]
  | .restart _ _ => some [0x2F]
  | .unknownCommand _ _ payload => some payload
  | .characterReceived _ _ _ => none
  | .idleGap _ => none
  | .shortBreak _ _ => none
  | .longBreak _ _ => none
  | .stuckLine _ _ => none
  | .telegramTimeLimitExpiry _ => none
  | .arbitrationLost _ => none
  | .collision _ => none
  | .driveFault _ => none
  | .attemptCompletion _ => none
  | .breakEnd _ => none
  | .entryDeadlineExpiry _ _ => none
  | .deadlineExpiryDuringAttempt _ => none
  | .classification => none
  | .programCompletion => none
  | .retireCompletion => none
  | .eraseSegmentCompletion => none
  | .segmentEraseStep => none
  | .blankCheckCompletion => none
  | .restartReset => none
  | .powerOn => none
  | .resetPin => none
  | .startUp _ => none
  | .candidateStartBit _ => none
  | .falseStart _ _ _ _ => none
  | .stuckRunEnd _ => none

/-- A started bridge whose Management Unit is ready to take a command (R151). -/
def Ready (s : State) : Prop := s.phase = .started ∧ s.mgmt.isReady = true

/-- A started bridge whose Management Unit takes a command of a port that a LOCKED bridge accepts there only if the port is the
maintenance port (R149, R151). -/
def ReadyOrMaint (s : State) (ingress : Port) : Prop :=
  Ready s ∧ (s.mgmt.level = .open ∨ s.straps.maint = some ingress)

/-- The answer to a management command: the state it leaves, with its reply placed on the port it came in on (R83, R153). -/
def replied (ingress : Port) (source code : Byte) (result : Result) (data : List Byte) (s : State) : Answer :=
  .next (placeReply ingress (replyTelegram s.address source code result data) s)

/-- The answer to a store command: its reply carries the store state it leaves (R156). -/
def storeReplied (ingress : Port) (source code : Byte) (result : Result) (s : State) : Answer :=
  replied ingress source code result (storeStateData s.ctrl) s

/-! ## Ports (R37, R38, R56) -/

/-- A closed port is DEAF and HALTED, its queue empty, no break pending, nothing in reception; an open port is neither DEAF nor
HALTED (R56). -/
def LinePort.ModeRight (x : LinePort) : Prop :=
  if x.mode.isOpen then x.rx ≠ .deaf ∧ x.tx ≠ .halted
  else x.rx = .deaf ∧ x.tx = .halted ∧ x.queue = [] ∧ x.breakPending = false ∧ x.candidate = none ∧ x.ownStart = false

/-- A transmitter in IDLE has no work and one in WAIT_GAP has some; a line that the bridge drives is not idle, so that the transmitter
needs a new idle gap after what it sends now (R6, R37, R38). -/
def LinePort.WorkRight (x : LinePort) : Prop :=
  (x.tx = .idle → x.hasWork = false) ∧ (x.tx = .waitGap → x.hasWork = true) ∧ (x.tx.driving = true → x.line.idle = false)

/-- The working profile has the ranges of R140. -/
def Profile.Legal (f : Profile) : Prop :=
  1 ≤ f.retryLimit ∧ f.retryLimit ≤ 15 ∧ 1 ≤ f.holdLimit ∧ f.holdLimit ≤ 250 ∧ 400 ≤ f.timeLimit ∧ f.timeLimit ≤ 2000

/-- The ports of the bridge (R37, R38, R56, R140). -/
def PortsRight (s : State) : Prop :=
  ∀ p, (s.port p).ModeRight ∧ (s.port p).WorkRight ∧ (s.port p).profile.Legal

/-! ## Buffers, queues, references (R70, R74, R76, R77) -/

/-- The buffer a receiver is filling (R19). -/
def RxState.buffer : RxState → Option (Fin Config.poolSize)
  | .filling r => some r.buffer
  | .search => none
  | .skip => none
  | .deaf => none

/-- The buffers that the entries of a queue name, in order (R78). -/
def LinePort.refs (x : LinePort) : List BufferRef := x.queue.map fun e => e.ref

/-- The number of egress entries of the bridge that name a buffer (R76). -/
def naming (s : State) (ref : BufferRef) : Nat :=
  (s.port .a).refs.count ref + (s.port .b).refs.count ref + (s.port .c).refs.count ref

/-- What the state of a buffer says of the receivers, the Classification Queue and the egress queues (R70, R72, R74, R76, R80). -/
def claimRight (s : State) (i : Fin Config.poolSize) : Claim → Prop
  | .free => i ∉ s.classQueue ∧ naming s (.pool i) = 0 ∧ ∀ p, (s.port p).rx.buffer ≠ some i
  | .filling owner =>
    i ∉ s.classQueue ∧ naming s (.pool i) = 0 ∧ ∀ p, (s.port p).rx.buffer = some i ↔ p = owner
  | .waiting _ => i ∈ s.classQueue ∧ naming s (.pool i) = 0 ∧ ∀ p, (s.port p).rx.buffer ≠ some i
  | .held ingress refs =>
    i ∉ s.classQueue ∧ naming s (.pool i) = refs ∧ 1 ≤ refs ∧ refs ≤ 2 ∧ BufferRef.pool i ∉ (s.port ingress).refs
      ∧ ∀ p, (s.port p).rx.buffer ≠ some i

/-- Every buffer is claimed by what holds it and by nothing else, and the Classification Queue holds none twice (R70, R74, R76). -/
def BuffersRight (s : State) : Prop := s.classQueue.Nodup ∧ ∀ i, claimRight s i (s.buffer i).claim

/-- An egress queue: at most 12 entries, no two naming the same buffer, the entry being sent at the head (R37, R77). -/
def LinePort.QueueRight (x : LinePort) : Prop :=
  x.queue.length ≤ 12 ∧ x.refs.Nodup ∧ ∀ a ∈ x.tx.attempt, x.refs.head? = some a.entry

/-- The egress queues (R37, R77). -/
def QueuesRight (s : State) : Prop := ∀ p, (s.port p).QueueRight

/-- The unit is REPLY_PENDING exactly when the Reply Buffer holds a reply, and then one entry of the bridge names it, on the reply
port (R77, R151). -/
def ReplyRight (s : State) : Prop :=
  match s.mgmt.reply with
  | none => s.mgmt.unit = .idle ∧ s.mgmt.replyPort = none ∧ naming s .reply = 0
  | some _ =>
    s.mgmt.unit = .replyPending ∧ naming s .reply = 1
      ∧ match s.mgmt.replyPort with
        | some p => BufferRef.reply ∈ (s.port p).refs
        | none => False

/-- The traffic of the bridge. -/
def TrafficRight (s : State) : Prop := PortsRight s ∧ BuffersRight s ∧ QueuesRight s ∧ ReplyRight s

/-! ## What is received and what is sent -/

/-- A telegram record in FILLING agrees with what its buffer holds: the position, the expected count once it is known, the payload
so far, and the check register over the bytes so far (R4, R19, R22). -/
def RxRecord.Faithful (r : RxRecord) (t : Telegram) : Prop :=
  if r.position < 3 then
    1 ≤ r.position ∧ r.expected = none ∧ r.checkHigh = none ∧ t.payload = []
      ∧ r.crc = crcOf ([t.destination, t.source].take r.position)
  else
    r.expected = some t.count ∧ r.position < t.count ∧ t.payload.length = min (r.position - 3) t.length
      ∧ r.checkHigh.isSome = decide (r.position + 1 = t.count) ∧ r.crc = crcOf t.bytes

/-- The telegrams in reception at every port (R22). -/
def ReceptionRight (s : State) : Prop :=
  ∀ p, match (s.port p).rx with
    | .filling r => r.Faithful (s.buffer r.buffer).telegram
    | .search => True
    | .skip => True
    | .deaf => True

/-- A complete telegram holds as many payload bytes as its length says (R3, R70). -/
def Telegram.Whole (t : Telegram) : Prop := t.payload.length = t.length

/-- Telegrams in WAITING and HELD buffers and in the Reply Buffer are complete (R70, R73, R151). -/
def TelegramsRight (s : State) : Prop :=
  (∀ i, match (s.buffer i).claim with
    | .waiting _ => (s.buffer i).telegram.Whole
    | .held _ _ => (s.buffer i).telegram.Whole
    | .free => True
    | .filling _ => True)
    ∧ ∀ t ∈ s.mgmt.reply, t.Whole

/-- An attempt in hand: its check value is that of the entry's buffer, its character one of the telegram's, and in ARBITRATING the
first or the second (R37, R40, R73). -/
def SendingRight (s : State) : Prop :=
  ∀ p, ∀ a ∈ (s.port p).tx.attempt,
    a.check = (s.telegramOf a.entry).check ∧ 1 ≤ a.character ∧ a.character ≤ (s.telegramOf a.entry).count
      ∧ ((s.port p).tx = .arbitrating a → a.character ≤ 2)

/-- Every entry's failed-attempt count is below its port's retry limit, and its deadline is no later than the hold limit from now
(R44, R78). -/
def EntriesRight (s : State) : Prop :=
  ∀ p, ∀ e ∈ (s.port p).queue,
    e.failed < (s.port p).profile.retryLimit ∧ e.deadline ≤ s.clock + 192000 * (s.port p).profile.holdLimit

/-- Telegrams received and sent. -/
def TelegramsFaithful (s : State) : Prop := ReceptionRight s ∧ TelegramsRight s ∧ SendingRight s ∧ EntriesRight s

/-! ## The Route Store and its controller (R89, R91, R120, R125 to R128, R132) -/

/-- The PROGRAM or RETIRE that is running, if one is. -/
def StoreController.runningSlotWork (c : StoreController) : Option SlotWork :=
  match c.running with
  | some ⟨.slot w, _, _, _⟩ => some w
  | some ⟨.eraseSegment _, _, _, _⟩ => none
  | some ⟨.eraseAll _ _, _, _, _⟩ => none
  | some ⟨.wipe _ _, _, _, _⟩ => none
  | some ⟨.blankCheck _, _, _, _⟩ => none
  | none => none

/-- The controller is in one of its five states (R120, R121): with an operation waiting there is no staged record, and a PROGRAM or
RETIRE of another slot runs. The open segment is that of the running PROGRAM or RETIRE (R132). -/
def StoreController.Legal (c : StoreController) : Prop :=
  c.openSegment = c.runningSlotWork.map SlotWork.segment
    ∧ ∀ w ∈ c.waiting, c.staged = none ∧ ∃ r ∈ c.runningSlotWork, r.target ≠ w.target

/-- A launched PROGRAM or RETIRE still meets the checks of its launch: its slot in the state it needs in a segment that carries its
mark, its image fit for the slot, its segment unprotected (R124 to R127). -/
def SlotWork.Sound (s : State) (w : SlotWork) : Prop :=
  boundaryProtects s.ctrl.boundary w.segment = false ∧ s.store.marks[w.segment] = true
    ∧ match w with
      | .program slot image => s.store.slot slot = .blank ∧ imageSuits slot image = true
      | .retire slot => slot.toNat < 240 ∧ ∃ image, s.store.slot slot = .written image

/-- A running operation works on no protected segment (R127, R136). -/
def Work.Sound (s : State) : Work → Prop
  | .slot w => w.Sound s
  | .eraseSegment g => boundaryProtects s.ctrl.boundary g = false
  | .eraseAll _ _ => s.ctrl.boundary = none
  | .wipe _ _ => s.ctrl.boundary = none
  | .blankCheck _ => True

/-- A slot that holds a record holds one that suits it, and no configuration slot is RETIRED (R125, R126, R139). -/
def slotRight (i : Byte) : Slot → Prop
  | .written image => imageSuits i image = true
  | .retired image => i.toNat < 240 ∧ imageSuits i image = true
  | .blank => True
  | .torn => True

/-- The Route Store and the Store Controller. On a started bridge the QUARANTINED segments are those without a mark (R91). -/
def StoreRight (s : State) : Prop :=
  s.ctrl.Legal ∧ (∀ r ∈ s.ctrl.running, r.work.Sound s) ∧ (∀ w ∈ s.ctrl.waiting, w.Sound s)
    ∧ (∀ i : Byte, slotRight i (s.store.slot i))
    ∧ (s.phase = .started → ∀ g : Segment, s.ctrl.quarantined[g] = !s.store.marks[g])

/-! ## Images (R125, R126, R163, 11.4): byte n of an image is at index n - 1 -/

/-- A number of two bytes, the more significant first (00_scope.md, 1.5). -/
def numberOf (hi lo : Byte) : Nat := 256 * hi.toNat + lo.toNat

/-- The same as two's complement. -/
def twosComplementOf (hi lo : Byte) : Int := if 32768 ≤ numberOf hi lo then numberOf hi lo - 65536 else numberOf hi lo

/-- A set of ports in bits 0, 1 and 2 of a byte (chapter 11). -/
def PortSet.Reads (set : PortSet) (b : Byte) : Prop := set.a = b.getLsbD 0 ∧ set.b = b.getLsbD 1 ∧ set.c = b.getLsbD 2

/-- The reference value of a field test lies in the range of its width and sign (R93, R125). -/
def ReferenceFits (i : Image) : Prop :=
  let n := numberOf i[9] i[10]
  i[7].getLsbD 6 = true ∨ (i[7].getLsbD 5 = false ∧ n ≤ 255) ∨ (i[7].getLsbD 5 = true ∧ (n ≤ 127 ∨ 65408 ≤ n))

/-- A route entry image that R125 and R163 let pass. -/
def RouteImageFits (i : Image) : Prop :=
  i[0] = 1 ∧ i[1].toNat % 8 ≠ 0 ∧ (i[6].toNat ≤ 7 ∨ i[6] = 255)
    ∧ (i[7].getLsbD 7 = true →
      i[7].getLsbD 4 = false ∧ i[8].toNat + (if i[7].getLsbD 6 then 2 else 1) ≤ 31 ∧ i[7].toNat % 16 ≠ 0
        ∧ i[17].toNat / 16 % 4 ≠ 0 ∧ ReferenceFits i)
    ∧ (i[7].getLsbD 7 = false → i[17].toNat / 16 % 4 = 0 ∧ i[13].getLsbD 4 = false)
    ∧ (i[13].getLsbD 4 = true → i[17].toNat % 4 ≠ 3)

/-- A port profile image that R126 and R163 let pass. -/
def ProfileImageFits (i : Image) : Prop :=
  i[0] = 5 ∧ i[1].toNat ≤ 1 ∧ 1 ≤ i[2].toNat ∧ i[2].toNat ≤ 5 ∧ i[3].toNat ≤ 1 ∧ 1 ≤ i[4].toNat ∧ i[4].toNat ≤ 15
    ∧ 1 ≤ i[5].toNat ∧ i[5].toNat ≤ 250 ∧ 400 ≤ numberOf i[6] i[7] ∧ numberOf i[6] i[7] ≤ 2000

/-- An image of the kind that its slot holds, with a legal value in every field that is read (R125, R126, R163). -/
def ImageFits (slot : Byte) (i : Image) : Prop :=
  (slot.toNat < 240 ∧ RouteImageFits i)
    ∨ (slot.toNat = 240 ∧ i[0] = 2 ∧ i[1].toNat ≤ 254)
    ∨ (slot.toNat = 241 ∧ i[0] = 3 ∧ (i[1].toNat ≤ 15 ∨ i[1].toNat = 255))
    ∨ (slot.toNat = 242 ∧ i[0] = 4)
    ∨ (243 ≤ slot.toNat ∧ slot.toNat ≤ 245 ∧ ProfileImageFits i)

/-- The field test that a route entry image spells (11.4). -/
def FieldTest.Reads (f : FieldTest) (i : Image) : Prop :=
  f.offset = i[8].toNat ∧ f.width = (if i[7].getLsbD 6 then .word else .byte) ∧ f.signed = i[7].getLsbD 5
    ∧ f.reference = (if i[7].getLsbD 5 then twosComplementOf i[9] i[10] else numberOf i[9] i[10])
    ∧ f.band = numberOf i[11] i[12]
    ∧ f.condition = ⟨i[7].getLsbD 0, i[7].getLsbD 1, i[7].getLsbD 2, i[7].getLsbD 3⟩
    ∧ (f.falseAction = .continue ↔ i[17].toNat / 16 % 4 = 1) ∧ (f.falseAction = .drop ↔ i[17].toNat / 16 % 4 = 2)
    ∧ (f.falseAction = .default ↔ i[17].toNat / 16 % 4 = 3)

/-- The route entry that an image spells (11.4). -/
def RouteEntry.Reads (e : RouteEntry) (i : Image) : Prop :=
  e.ingress.Reads i[1] ∧ e.destination = ⟨i[2], i[3]⟩ ∧ e.source = ⟨i[4], i[5]⟩
    ∧ e.cls = (if i[6].toNat = 255 then none else some i[6].toNat)
    ∧ (i[7].getLsbD 7 = false → e.test = none) ∧ (i[7].getLsbD 7 = true → ∃ f, e.test = some f ∧ f.Reads i)
    ∧ e.forward.Reads i[13] ∧ e.rewrite = (if i[13].getLsbD 3 then some i[14] else none)
    ∧ (i[13].getLsbD 4 = false → e.adjust = none)
    ∧ (i[13].getLsbD 4 = true → ∃ a, e.adjust = some a ∧ a.amount = twosComplementOf i[15] i[16]
      ∧ (a.policy = .wrap ↔ i[17].toNat % 4 = 0) ∧ (a.policy = .clamp ↔ i[17].toNat % 4 = 1)
      ∧ (a.policy = .drop ↔ i[17].toNat % 4 = 2))

/-- The port profile that an image spells (11.4). -/
def Profile.Reads (f : Profile) (i : Image) : Prop :=
  (f.enabled = true ↔ i[1].toNat = 1)
    ∧ ((f.rate = .r9600 ∧ i[2].toNat = 1) ∨ (f.rate = .r19200 ∧ i[2].toNat = 2) ∨ (f.rate = .r38400 ∧ i[2].toNat = 3)
      ∨ (f.rate = .r62500 ∧ i[2].toNat = 4) ∨ (f.rate = .r125000 ∧ i[2].toNat = 5))
    ∧ (f.noise = .accept ↔ i[3].toNat = 0) ∧ f.retryLimit = i[4].toNat ∧ f.holdLimit = i[5].toNat
    ∧ f.timeLimit = numberOf i[6] i[7] ∧ f.defaultAction.Reads i[8]

/-! ## Access (R147) -/

/-- The failed-unlock count is at most 3, a LOCKED bridge has a working access code, and an accepted RESTART found the bridge OPEN
(R147, R158). -/
def AccessRight (s : State) : Prop :=
  s.mgmt.failed ≤ 3 ∧ (s.mgmt.level = .locked → s.mgmt.code.isSome = true)
    ∧ (s.mgmt.restartMark = true → s.mgmt.level = .open)

/-! ## All of it -/

/-- What holds of the bridge between any two steps. -/
def Right (s : State) : Prop := TrafficRight s ∧ TelegramsFaithful s ∧ StoreRight s ∧ AccessRight s

end Sys2Proof.Machine
end

