-- ==== Sys2Proof/Certificates/Slice0/Obligations.lean ====
section
/-! DEFINITION. The statements about the bridge, for the provers. -/

open Sys2Proof Sys2Proof.Machine

/-! ## The machine: its command queue and its own events -/

/-- A step with a command waiting is that command's effect on the state with the rest of the queue. -/
def Obligations.StepTakesFrontCommand : Prop :=
  ∀ (c : Instr) (rest : List Instr) (s : State), s.pending = c :: rest → step s = exec c { s with pending := rest }

/-- A step on an empty queue takes the bridge's own due event, or one tick of the clock passes, 192 to a microsecond, and nothing else
changes. On a started bridge the due event is one that is due, and no event is due when none is taken: a RESTART's reset, a
classification, a store completion, and at each port the telegram time limit, the end of a break, a hold deadline, an idle gap, a stuck
line, each when its bit times or milliseconds have passed and not sooner (R6, R10, R33, R50, R51, R53, R57). A running store operation
completes, on a bridge with nothing else to do before it, when its duration has passed and not sooner (R132, R136). A reset by a line
reset request or a RESTART ends at once, with the straps latched last; another lasts (R142, R159). The model's choices here: the order
among events due at one moment and the scale of the clock (log entry 3), the level a line keeps between two rows (log entry 12), the
straps of a reset the part ends itself (log entry 13). -/
def Obligations.StepOnEmptyQueue : Prop :=
  ∀ s : State, s.pending = [] →
    (∀ c, dueEvent s = some c → step s = exec c s)
      ∧ (dueEvent s = none → step s = .next { s with clock := s.clock + 1 })
      ∧ (s.phase = .started → ∀ c, dueEvent s = some c →
        (c = .restartReset ∧ restartDue s = true) ∨ (c = .classification ∧ s.classQueue ≠ []) ∨ storeDue s = some c
          ∨ ∃ p, Overdue s p c)
      ∧ (s.phase = .started → dueEvent s = none →
        restartDue s = false ∧ s.classQueue = [] ∧ storeDue s = none ∧ ∀ p c, ¬ Overdue s p c)
      ∧ (s.phase = .inReset → s.record.cause = .restart ∨ (∃ p, s.record.cause = .lineReset p) →
        step s = exec (.startUp s.straps) s)
      ∧ (s.phase = .inReset → s.record.cause = .powerOn ∨ s.record.cause = .resetPin →
        step s = .next { s with clock := s.clock + 1 })
      ∧ ∀ (r : Running) (micros : Nat),
        s.phase = .started → restartDue s = false → s.classQueue = [] → s.ctrl.running = some r →
          (micros = match r.work with
            | .slot _ => if r.continued then 30 else 70
            | .eraseSegment _ => 24000
            | .eraseAll _ _ => 7500
            | .wipe _ _ => 7500
            | .blankCheck _ => 3000) →
          (s.clock < r.since + 192 * micros → storeDue s = none)
            ∧ (r.since + 192 * micros ≤ s.clock →
              step s = exec (match r.work with
                | .slot (.program _ _) => .programCompletion
                | .slot (.retire _) => .retireCompletion
                | .eraseSegment _ => .eraseSegmentCompletion
                | .eraseAll _ _ => .segmentEraseStep
                | .wipe _ _ => .segmentEraseStep
                | .blankCheck _ => .blankCheckCompletion) s)

/-- Every command is answered with a next state, in every state, and leaves the commands that wait behind it as they are. The
model's choice where the tables of the spec have a dash: log entry 4. -/
def Obligations.EveryCommandAnswersNext : Prop :=
  ∀ (c : Instr) (s : State), ∃ t, exec c s = .next t ∧ t.pending = s.pending

/-! ## The line -/

/-- The CRC over a sequence and a check value behind it is 0000h exactly when that is the sequence's own check value: the two ways of
checking agree (R4). The register starts at FFFFh, and the spec's test sequence and its shortest telegram have the values it gives. -/
def Obligations.CheckValueResidue : Prop :=
  crcOf [] = 0xFFFF
    ∧ crcOf [0x31, 0x32, 0x33, 0x34, 0x35, 0x36, 0x37, 0x38, 0x39] = 0x29B1
    ∧ crcOf [0x10] = 0xF3C1 ∧ crcOf [0x10, 0x21] = 0x2A3F ∧ crcOf [0x10, 0x21, 0x00] = 0xBA28
    ∧ ∀ (bytes : List Byte) (hi lo : Byte), crcOf (bytes ++ [hi, lo]) = 0 ↔ hi ++ lo = crcOf bytes

/-- The characters an attempt sends: destination, source, class and length, payload, check value; a mark bit of 1 in the first only;
11 bit times for each, a dominant start bit, the mark bit, the data bits from the most significant down, a recessive stop bit, a bit of 0
dominant and one of 1 recessive, and no rests (R2, R3, R40). -/
def Obligations.TelegramOnTheLine : Prop :=
  (∀ (mark : Bool) (data : Byte),
    characterLevels mark data
      = [.dominant, levelOf mark] ++ [7, 6, 5, 4, 3, 2, 1, 0].map (fun k => levelOf (data.getLsbD k)) ++ [.recessive])
  ∧ levelOf false = .dominant ∧ levelOf true = .recessive
  ∧ ∀ t : Telegram, t.Whole →
    ∃ hi lo : Byte,
      hi ++ lo = crcOf ([t.destination, t.source, t.control] ++ t.payload)
        ∧ t.characters.map (fun c => c.data) = [t.destination, t.source, t.control] ++ t.payload ++ [hi, lo]
        ∧ t.characters.map (fun c => c.mark) = true :: List.replicate (4 + t.length) false
        ∧ (∀ c ∈ t.characters, c.noisy = false ∧ c.framing = false)
        ∧ t.levels = t.characters.flatMap (fun c => characterLevels c.mark c.data) ∧ t.levels.length = 11 * (5 + t.length)

/-- A character sent as R2 says, sampled eight times in each bit time up to sample 6 of its stop bit, is read as the character it is,
from start search on and from a candidate start bit on: every mark bit and every data byte (R2, R14 to R18). -/
def Obligations.UndisturbedCharacterIsRead : Prop :=
  ∀ (mark : Bool) (data : Byte),
    let samples := ((characterLevels mark data).flatMap fun level => List.replicate 8 level).take 86
    characterOfSamples (.searching 2) samples = some ⟨mark, data, false, false⟩
      ∧ characterOfSamples (.candidate []) (samples.drop 1) = some ⟨mark, data, false, false⟩

/-- Of two telegrams that begin in the same bit time, the one with the lower destination, or with the same destination and the lower
source, passes onto the line as it was sent through characters 1 and 2, and its sender reads back every bit; the other sender loses
arbitration within the span (R8, R41). -/
def Obligations.LowerHeaderWinsArbitration : Prop :=
  ∀ t u : Telegram, word t.destination t.source < word u.destination u.source →
    let line := sharedLine true true (t.levels.take 22) (u.levels.take 22)
    line = t.levels.take 22 ∧ attemptVerdict 0 (t.levels.take 22) line = none
      ∧ ∃ bit, 1 ≤ bit ∧ bit ≤ 20 ∧ attemptVerdict 0 (u.levels.take 22) line = some (bit, .arbitrationLost)

/-! ## Reception -/

/-- A good mark character in SEARCH or SKIP is a header: it takes the FREE buffer with the lowest number and starts the telegram time
limit at its start bit, or, with no buffer FREE, counts RX_NO_BUFFER and moves the receiver to SKIP (R20, R23, R57, R71). No idle
gap and no break comes before it (`NothingFirst`; LineMeasurements says what follows where one does). Three clauses are the model's choice: that the taken buffer
holds source 0, control 0 and an empty payload, where R73 lets bytes of an earlier telegram stand (log entry 8), that the transmitter
goes on to its next character with the row (`nextCharacter`, log entry 10), and that a header no candidate start bit was commanded for
has its start bit, own mark and time limit at the row's moment (log entry 10). -/
def Obligations.ReceiverTakesHeader : Prop :=
  ∀ (s : State) (p : Port) (reception : Reception) (rival : Option Rival) (c : Character),
    Live s p → NothingFirst s p → (s.port p).rx = .search ∨ (s.port p).rx = .skip →
      Reception.character (s.port p) s.clock reception = some c → c.mark = true → c.framing = false →
      (∀ i, (s.buffer i).claim = .free → (∀ j, j < i → (s.buffer j).claim ≠ .free) →
        ∃ t, exec (.characterReceived p reception rival) s = .next t
          ∧ OnlyLine p s t ∧ t.mgmt = s.mgmt ∧ (s.port p).SameDuties (t.port p) ∧ (t.port p).counters = (s.port p).counters
          ∧ (t.port p).tx = nextCharacter t (s.port p).tx
          ∧ t.buffer i = ⟨.filling p, ⟨c.data, 0, 0, []⟩⟩ ∧ (∀ j, j ≠ i → t.buffer j = s.buffer j)
          ∧ (t.port p).rx = .filling
            { buffer := i, position := 1, expected := none, crc := crcOf [c.data], checkHigh := none, noise := c.noisy
              own := (match (s.port p).candidate with
                | some start => start.own
                | none => (s.port p).ownStart) && (match (s.port p).tx.attempt with
                  | some a => !a.completed
                  | none => false)
              limitFrom := match (s.port p).candidate with
                | some start => start.moment
                | none => s.clock })
        ∧ ((∀ i, (s.buffer i).claim ≠ .free) →
          ∃ t, exec (.characterReceived p reception rival) s = .next t
            ∧ OnlyPort p s t ∧ (s.port p).SameDuties (t.port p) ∧ (t.port p).rx = .skip
            ∧ (t.port p).counters = (s.port p).counters.raise .rxNoBuffer)

/-- In SEARCH and SKIP a good character without a mark, or any framing-error character, leaves the receiver in SKIP; nothing is
counted (R21). No idle gap and no break comes before it (`NothingFirst`). -/
def Obligations.StrayCharacterSkips : Prop :=
  ∀ (s : State) (p : Port) (reception : Reception) (rival : Option Rival) (c : Character),
    Live s p → NothingFirst s p → (s.port p).rx = .search ∨ (s.port p).rx = .skip →
      Reception.character (s.port p) s.clock reception = some c → c.mark = false ∨ c.framing = true →
      ∃ t, exec (.characterReceived p reception rival) s = .next t
        ∧ OnlyPort p s t ∧ (s.port p).SameDuties (t.port p) ∧ (t.port p).rx = .skip
        ∧ (t.port p).counters = (s.port p).counters

/-- A good character without a mark in FILLING, short of the last, is stored by its position: source, class and length, payload, or
the received check value's more significant byte; the check register and the expected count follow (R4, R22). No idle gap and no
break comes before it (`NothingFirst`): after a rest of at most 11 bit times it belongs to the telegram (R5). -/
def Obligations.FillingStoresByPosition : Prop :=
  ∀ (s : State) (p : Port) (reception : Reception) (rival : Option Rival) (c : Character) (r : RxRecord),
    Live s p → NothingFirst s p → (s.port p).rx = .filling r → Reception.character (s.port p) s.clock reception = some c → c.mark = false →
      c.framing = false →
      r.Faithful (s.buffer r.buffer).telegram → r.expected ≠ some (r.position + 1) →
      let before := (s.buffer r.buffer).telegram
      let after : Telegram :=
        if r.position = 1 then { before with source := c.data }
        else if r.position = 2 then { before with control := c.data }
        else if r.expected = some (r.position + 2) then before
        else { before with payload := before.payload ++ [c.data] }
      ∃ t r', exec (.characterReceived p reception rival) s = .next t
        ∧ OnlyLine p s t ∧ t.mgmt = s.mgmt ∧ (s.port p).SameDuties (t.port p) ∧ (t.port p).counters = (s.port p).counters
        ∧ t.buffer r.buffer = ⟨(s.buffer r.buffer).claim, after⟩ ∧ (∀ j, j ≠ r.buffer → t.buffer j = s.buffer j)
        ∧ (t.port p).rx = .filling r'
        ∧ r'.buffer = r.buffer ∧ r'.position = r.position + 1 ∧ r'.noise = (r.noise || c.noisy) ∧ r'.own = r.own
        ∧ r'.limitFrom = r.limitFrom ∧ r'.Faithful after
        ∧ (r.expected = some (r.position + 2) → r'.checkHigh = some c.data)

/-- An ordinary telegram completes at position 5 + L: a bad check value counts RX_CHECKSUM, a noisy one under DROP counts
RX_NOISY_DROPPED, any other is counted RX_GOOD and stands WAITING at the tail of the Classification Queue; a good check value ends
probation (R25, R27, R28, R61, R72). No idle gap and no break comes before the last character (`NothingFirst`). -/
def Obligations.OrdinaryTelegramCompletes : Prop :=
  ∀ (s : State) (p : Port) (reception : Reception) (rival : Option Rival) (c : Character) (r : RxRecord),
    Live s p → NothingFirst s p → (s.port p).rx = .filling r → r.Faithful (s.buffer r.buffer).telegram → r.own = false →
      r.expected = some (r.position + 1) →
      Reception.character (s.port p) s.clock reception = some c → c.mark = false → c.framing = false →
      let good := r.crc = r.checkHigh.getD 0 ++ c.data
      let dropped := (r.noise || c.noisy) = true ∧ (s.port p).profile.noise = .drop
      ∃ t, exec (.characterReceived p reception rival) s = .next t
        ∧ OnlyReception p s t ∧ t.mgmt = s.mgmt ∧ (t.port p).rx = .search
        ∧ (t.port p).queue = (s.port p).queue ∧ (t.port p).profile = (s.port p).profile
        ∧ (t.port p).breakPending = (s.port p).breakPending
        ∧ (∀ j, j ≠ r.buffer → t.buffer j = s.buffer j)
        ∧ (¬ good → (t.port p).counters = (s.port p).counters.raise .rxChecksum ∧ (t.port p).mode = (s.port p).mode
          ∧ t.buffer r.buffer = { s.buffer r.buffer with claim := .free } ∧ t.classQueue = s.classQueue)
        ∧ (good → (t.port p).mode = (s.port p).mode.afterReport)
        ∧ (good → dropped → (t.port p).counters = (s.port p).counters.raise .rxNoisyDropped
          ∧ t.buffer r.buffer = { s.buffer r.buffer with claim := .free } ∧ t.classQueue = s.classQueue)
        ∧ (good → ¬ dropped → (t.port p).counters = (s.port p).counters.raise .rxGood
          ∧ t.buffer r.buffer = { s.buffer r.buffer with claim := .waiting p } ∧ t.classQueue = s.classQueue ++ [r.buffer])

/-- The capture of the port's own attempt completes: after the attempt's completion it settles the echo verdict with TX_DONE or
TX_COLLISION and the entry leaves the head; before it, it settles nothing (R25, R26, R48, R49). No
idle gap and no break comes before the last character (`NothingFirst`). -/
def Obligations.EchoSettlesAttempt : Prop :=
  ∀ (s : State) (p : Port) (reception : Reception) (rival : Option Rival) (c : Character) (r : RxRecord) (a : Attempt)
      (e : EgressEntry) (rest : List EgressEntry),
    Live s p → NothingFirst s p → (s.port p).rx = .filling r → r.Faithful (s.buffer r.buffer).telegram → r.own = true →
      r.expected = some (r.position + 1) →
      Reception.character (s.port p) s.clock reception = some c → c.mark = false → c.framing = false →
      (s.port p).tx.attempt = some a → (s.port p).queue = e :: rest →
      let good := r.crc = r.checkHigh.getD 0 ++ c.data
      ∃ t, exec (.characterReceived p reception rival) s = .next t
        ∧ OnlyLine p s t ∧ (t.port p).rx = .search ∧ (t.port p).profile = (s.port p).profile
        ∧ (t.port p).breakPending = (s.port p).breakPending
        ∧ (good → (t.port p).mode = (s.port p).mode.afterReport) ∧ (¬ good → (t.port p).mode = (s.port p).mode)
        ∧ (a.completed = true →
          (t.port p).counters = (s.port p).counters.raise (if good then .txDone else .txCollision)
            ∧ HeadGone p e rest (s.freeBuffer r.buffer) t
            ∧ (t.port p).tx = restState ((s.port p).breakPending || !rest.isEmpty))
        ∧ (a.completed = false →
          (t.port p).counters = (s.port p).counters ∧ (t.port p).queue = e :: rest
            ∧ t.pool = (s.freeBuffer r.buffer).pool ∧ t.mgmt = s.mgmt
            ∧ ∃ a', (t.port p).tx.attempt = some a' ∧ a'.entry = a.entry ∧ a'.completed = false)

/-- A telegram in FILLING is abandoned at a framing error, an idle gap, a break or its time limit: its buffer is FREE, one counter
records it, and the receiver is in SKIP, or in SEARCH after an idle gap, which reaches the port while the bridge does not drive its
line and, here, with no missed break before it (LineMeasurements says what follows where there is one); the time limit is also a fault (R29, R31, R32, R33). The
framing error of the own capture of a completed attempt settles that attempt: the entry leaves the head with its reference released,
nothing is counted for it, the transmitter rests (R48). -/
def Obligations.FillingIsAbandoned : Prop :=
  ∀ (s : State) (p : Port) (r : RxRecord), Live s p → (s.port p).rx = .filling r →
    (∀ reception rival c, NothingFirst s p → Reception.character (s.port p) s.clock reception = some c → c.framing = true →
      ∃ t, exec (.characterReceived p reception rival) s = .next t ∧ OnlyLine p s t ∧ (t.port p).rx = .skip
        ∧ (t.buffer r.buffer).claim = .free ∧ (t.port p).counters = (s.port p).counters.raise .rxBroken
        ∧ ∀ a e rest, r.own = true → (s.port p).tx.attempt = some a → a.completed = true → (s.port p).queue = e :: rest →
          HeadGone p e rest (s.freeBuffer r.buffer) t
            ∧ (t.port p).tx = restState ((s.port p).breakPending || !rest.isEmpty))
      ∧ (∀ samples, (s.port p).tx.driving = false → 96 ≤ samples ∨ Reached s p 96 (s.port p).line.rest →
        (∀ n, RunEnded s p samples n → n < 88) →
        ∃ t, exec (.idleGap ⟨p, samples⟩) s = .next t ∧ OnlyLine p s t ∧ (t.port p).rx = .search
          ∧ (t.buffer r.buffer).claim = .free ∧ (t.port p).counters = (s.port p).counters.raise .rxBroken)
      ∧ (∀ samples, 88 ≤ samples → samples < 512 → (s.port p).line.stuck = false →
        (s.port p).line.rest ≠ none ∨ ¬ Reached s p 512 (s.port p).line.run →
        ∃ t, exec (.shortBreak p samples) s = .next t ∧ OnlyLine p s t ∧ (t.port p).rx = .skip
          ∧ (t.buffer r.buffer).claim = .free ∧ (t.port p).counters = (s.port p).counters.raise .rxBroken)
      ∧ (∀ samples, 512 ≤ samples → samples < 2048 → (s.port p).line.stuck = false →
        (s.port p).line.rest ≠ none ∨ ¬ Reached s p 2048 (s.port p).line.run →
        s.straps.maint ≠ some p ∨ s.straps.lre = false →
        ∃ t, exec (.longBreak p samples) s = .next t ∧ OnlyLine p s t ∧ (t.port p).rx = .skip
          ∧ (t.buffer r.buffer).claim = .free ∧ (t.port p).counters = (s.port p).counters.raise .rxBroken)
      ∧ (∃ t, exec (.telegramTimeLimitExpiry p) s = .next t ∧ OnlyLine p s t ∧ (t.buffer r.buffer).claim = .free
        ∧ t.counter p .rxTimeout = countUp (s.counter p .rxTimeout) ∧ t.counter p .faults = countUp (s.counter p .faults)
        ∧ t.counter p .rxBroken = s.counter p .rxBroken
        ∧ ((s.port p).mode = .running → (t.port p).mode = .recovering ∧ (t.port p).rx = .skip)
        ∧ ((s.port p).mode = .recovering → (t.port p).mode = .isolated ∧ (t.port p).rx = .deaf))

/-- A good mark character in FILLING aborts the telegram with RX_BROKEN and is taken at once as a header; where another port's header
is taken between the two requests to the pool and nothing else is FREE, that port has the freed buffer, and this one counts
RX_NO_BUFFER and skips (R30). No idle gap and no break comes before either character (`NothingFirst`). Three clauses are the model's choice: the row
names the character taken between (log entry 5), both taken buffers hold source 0, control 0 and an empty payload, where R73 lets bytes
of an earlier telegram stand (log entry 8), and a header that no candidate start bit was commanded for starts its time limit at the row's
moment (log entry 10). -/
def Obligations.MarkOutOfPlaceRestarts : Prop :=
  ∀ (s : State) (p : Port) (r : RxRecord) (reception : Reception) (c : Character),
    Live s p → NothingFirst s p → (s.port p).rx = .filling r → Reception.character (s.port p) s.clock reception = some c → c.mark = true →
    c.framing = false →
    (∃ t r', exec (.characterReceived p reception none) s = .next t ∧ OnlyLine p s t
      ∧ (t.port p).counters = (s.port p).counters.raise .rxBroken
      ∧ (t.port p).rx = .filling r' ∧ r'.buffer ≤ r.buffer ∧ r'.position = 1 ∧ r'.expected = none ∧ r'.noise = c.noisy
      ∧ r'.crc = crcOf [c.data] ∧ (∀ start, (s.port p).candidate = some start → r'.limitFrom = start.moment)
      ∧ ((s.port p).candidate = none → r'.limitFrom = s.clock)
      ∧ t.buffer r'.buffer = ⟨.filling p, ⟨c.data, 0, 0, []⟩⟩)
    ∧ (∀ (q : Port) (d : Character), q ≠ p → Live s q → NothingFirst s q → (s.port q).rx = .search ∨ (s.port q).rx = .skip →
      d.mark = true → d.framing = false → r.own = false → (∀ i, (s.buffer i).claim ≠ .free) →
      ∃ t r', exec (.characterReceived p reception (some ⟨q, d⟩)) s = .next t
        ∧ (t.port p).rx = .skip ∧ (t.port p).counters = ((s.port p).counters.raise .rxBroken).raise .rxNoBuffer
        ∧ (t.port q).rx = .filling r' ∧ r'.buffer = r.buffer ∧ t.buffer r.buffer = ⟨.filling q, ⟨d.data, 0, 0, []⟩⟩)

/-- Every whole telegram, sent to an open port in SEARCH character by character, is received whole: the lowest FREE buffer holds
exactly that telegram, WAITING at the tail of the Classification Queue, with RX_GOOD counted once and the receiver in SEARCH. No idle gap and
no break comes before its first character (`NothingFirst`). -/
def Obligations.TelegramIsReceivedWhole : Prop :=
  ∀ (s : State) (p : Port) (t : Telegram) (i : Fin Config.poolSize),
    Live s p → NothingFirst s p → (s.port p).rx = .search → (s.port p).tx = .idle ∨ (s.port p).tx = .waitGap → t.Whole →
      (s.buffer i).claim = .free → (∀ j, j < i → (s.buffer j).claim ≠ .free) →
      ∃ u, execAll (t.characters.map fun c => .characterReceived p (.delivered c) none) s = .next u
        ∧ OnlyReception p s u ∧ u.mgmt = s.mgmt ∧ u.classQueue = s.classQueue ++ [i] ∧ u.buffer i = ⟨.waiting p, t⟩
        ∧ (∀ j, j ≠ i → u.buffer j = s.buffer j) ∧ (u.port p).rx = .search ∧ (u.port p).queue = (s.port p).queue
        ∧ (u.port p).mode = (s.port p).mode.afterReport ∧ (u.port p).counters = (s.port p).counters.raise .rxGood

/-! ## The line's other events -/

/-- An idle gap, a recessive period that has reached 12 bit times and no shorter one on a line that the bridge does not drive, makes the
line idle, truncates a telegram in FILLING with RX_BROKEN and returns the receiver to SEARCH; a transmitter in WAIT_GAP begins, a pending
break first, else an attempt at the head entry with its check value computed afresh (R6, R21, R31, R39, R40). No missed break comes
before it here; LineMeasurements says what follows where one does. That the row changes nothing while the bridge drives the line, where
the table of 3.8 has a dash, is deduced: log entry 4. -/
def Obligations.IdleGapGrantsLine : Prop :=
  ∀ (s : State) (p : Port) (samples : Nat), Live s p → (s.port p).rx ≠ .deaf →
    (samples < 96 → ¬ Reached s p 96 (s.port p).line.rest → exec (.idleGap ⟨p, samples⟩) s = .next s)
    ∧ ((s.port p).tx.driving = true → exec (.idleGap ⟨p, samples⟩) s = .next s)
    ∧ ((s.port p).tx.driving = false → 96 ≤ samples ∨ Reached s p 96 (s.port p).line.rest →
      (∀ n, RunEnded s p samples n → n < 88) →
      ∃ t, exec (.idleGap ⟨p, samples⟩) s = .next t ∧ OnlyLine p s t ∧ (t.port p).rx = .search
        ∧ (t.port p).mode = (s.port p).mode ∧ (t.port p).profile = (s.port p).profile
        ∧ ((s.port p).rx = .search ∨ (s.port p).rx = .skip → OnlyPort p s t ∧ (t.port p).counters = (s.port p).counters)
        ∧ (∀ r, (s.port p).rx = .filling r →
          (t.port p).counters = (s.port p).counters.raise .rxBroken ∧ (t.buffer r.buffer).claim = .free
            ∧ (r.own = false ∨ (s.port p).tx = .waitGap → t.mgmt = s.mgmt ∧ ∀ j, j ≠ r.buffer → t.buffer j = s.buffer j))
        ∧ ((s.port p).rx.holdsOwn = false → (t.port p).queue = (s.port p).queue)
        ∧ ((s.port p).rx.holdsOwn = false → (s.port p).tx ≠ .waitGap →
          (t.port p).tx = (s.port p).tx ∧ (t.port p).line.idle = true ∧ (t.port p).breakPending = (s.port p).breakPending)
        ∧ ((s.port p).tx = .waitGap → (t.port p).queue = (s.port p).queue)
        ∧ ((s.port p).tx = .waitGap → (s.port p).breakPending = true →
          (t.port p).tx = .breaking s.clock ∧ (t.port p).breakPending = false)
        ∧ ((s.port p).tx = .waitGap → (s.port p).breakPending = false → ∀ e rest, (s.port p).queue = e :: rest →
          (t.port p).tx = .arbitrating ⟨e.ref, 1, (s.telegramOf e.ref).check, false, false⟩
            ∧ (t.port p).breakPending = false))

/-- A break that finds no telegram filling counts nothing and leaves the receiver where it is; a long break on the maintenance port
with LRE enabled resets the bridge with cause LINE_RESET and that port (R11, R21, R34, R142, R143). A run of normal data is not
delivered, and a row that tells of its end outside a character starts the recessive measurement and does nothing else; that SHORT_BREAK
is this row, and that the end of a run which start search passed over is such a point, R6 listing none for it, is the model's choice:
log entry 12. That the row leaves the bridge held in
reset, for the start-up that R142 lets follow at once to be a step of its own, is the model's choice: log entry 13. -/
def Obligations.BreaksAtTheReceiver : Prop :=
  ∀ (s : State) (p : Port) (samples : Nat), Live s p → (s.port p).line.stuck = false →
    let within (bound : Nat) : Prop :=
      samples < bound ∧ ((s.port p).line.rest ≠ none ∨ ¬ Reached s p bound (s.port p).line.run)
    (∀ c, (c = .shortBreak p samples ∧ 88 ≤ samples ∧ within 512)
        ∨ (c = .longBreak p samples ∧ 512 ≤ samples ∧ within 2048 ∧ (s.straps.maint ≠ some p ∨ s.straps.lre = false)) →
      (s.port p).rx = .search ∨ (s.port p).rx = .skip →
      exec c s = .next (s.setPort p
        { s.port p with
          candidate := none, ownStart := false
          line := ⟨false, some ⟨s.clock, 0⟩, none, some ⟨s.clock, 0⟩, false⟩ }))
    ∧ (within 88 →
      let running := (s.port p).candidate = none
        ∧ (1 ≤ samples ∨ ((s.port p).line.rest = none ∧ Reached s p 1 (s.port p).line.run))
      (running → exec (.shortBreak p samples) s = .next (s.setPort p
          { s.port p with line := ⟨false, some ⟨s.clock, 0⟩, none, some ⟨s.clock, 0⟩, false⟩ }))
        ∧ (¬ running → exec (.shortBreak p samples) s = .next s))
    ∧ (512 ≤ samples → within 2048 → s.straps.maint = some p → s.straps.lre = true →
      ∃ t, exec (.longBreak p samples) s = .next t ∧ t.phase = .inReset ∧ t.record.cause = .lineReset p
        ∧ t.record.count = (if s.record.count = 255 then 255 else s.record.count + 1)
        ∧ t.store = abortWork s.store s.ctrl.running ∧ t.classQueue = [] ∧ t.pending = s.pending)

/-- What start search finds and the line's measurements. A dominant sample after two recessive ones begins a candidate start bit, with
the run measured from it; within a character it begins nothing, and after fewer than two it begins no candidate, but the line is dominant
and its rest is over. A rest of 12 bit times before a start bit, told of by the candidate's row or measured, whose idle gap no step has
taken, is an idle gap first, so that the character after it does not belong to the telegram in reception. A dominant run of 11 or more bit
times of which a row tells only that the line has turned recessive since is first classified by the length it reached, and acts as the row
of its class. A false start measures the rest again from the first recessive sample after the glitch. Both, and the end of a stuck run,
change the line's measurements and nothing else. A delivered good character is followed by a rest that counts from the end of its stop
bit, two samples on, with two recessive samples seen; one with a framing error by the run of its stop bit (R5, R6, R7, R10, R11, R14, R15,
R18). The model's choices here: the candidate takes up the attempt's own start bit, a false start or a character that no candidate was
commanded for begins its start bit at the row's moment after two recessive samples (log entry 10), what the row says of the recessive
samples before it decides, a candidate ends a run declared stuck where a row tells of recessive samples since, a missed idle gap and a
missed run are taken first (log entry 12), a false start that ends dominant begins a run and a delivered character came undisturbed (log
entry 9). -/
def Obligations.LineMeasurements : Prop :=
  ∀ (s : State) (p : Port), Live s p →
    (∀ recessives rest,
      let row : Instr := .candidateStartBit ⟨p, recessives, rest⟩
      let noBreakFirst := ∀ n, RunEndedBefore s p recessives n → n < 88
      ((s.port p).candidate ≠ none → exec row s = .next s)
      ∧ ((s.port p).candidate = none → noBreakFirst → ¬ GapMissed s p rest →
        (2 ≤ recessives → exec row s = .next (s.setPort p
          { s.port p with
            candidate := some ⟨s.clock, (s.port p).ownStart⟩, ownStart := false
            line := ⟨false, none, some ⟨s.clock, 1⟩, none, false⟩ }))
          ∧ (recessives = 1 ∨ (recessives = 0 ∧ (s.port p).line.run = none) → exec row s = .next (s.setPort p
            { s.port p with line := ⟨false, none, some ⟨s.clock, 1⟩, none, false⟩ }))
          ∧ (recessives = 0 → (s.port p).line.run ≠ none → exec row s = .next (s.setPort p
            { s.port p with line := { (s.port p).line with idle := false, rest := none, search := none } })))
      ∧ ((s.port p).candidate = none → noBreakFirst → GapMissed s p rest →
        exec row s = execAll [.idleGap ⟨p, 96⟩, row] (s.withRun p none)))
      ∧ (∀ x y z : Level, [x, y, z].count .dominant ≤ 1 →
        let rests := if y = .dominant then 1 else if x = .dominant then 2 else 3
        (NothingFirst s p → exec (.falseStart p x y z) s = .next (s.setPort p
          { s.port p with
            candidate := none, ownStart := false
            line := if z = .dominant then ⟨false, none, some ⟨s.clock, 1⟩, none, false⟩
              else ⟨false, some ⟨s.clock, rests⟩, none, some ⟨s.clock, rests⟩, false⟩ }))
          ∧ ((s.port p).candidate = none → GapMissed s p 0 →
            exec (.falseStart p x y z) s = execAll [.idleGap ⟨p, 96⟩, .falseStart p x y z] s))
      ∧ ((s.port p).line.stuck = true →
        exec (.stuckRunEnd p) s = .next (s.setPort p
          { s.port p with line := ⟨false, some ⟨s.clock, 0⟩, none, some ⟨s.clock, 0⟩, false⟩ }))
      ∧ (∀ (reception : Reception) (rival : Option Rival) (c : Character),
        Reception.character (s.port p) s.clock reception = some c → (s.port p).candidate = none → GapMissed s p 0 →
          exec (.characterReceived p reception rival) s
            = execAll [.idleGap ⟨p, 96⟩, .characterReceived p reception rival] s)
      ∧ (∀ (row : Instr) (n : Nat),
        (∃ recessives rest, row = .candidateStartBit ⟨p, recessives, rest⟩ ∧ RunEndedBefore s p recessives n)
          ∨ ((∃ x y z : Level, row = .falseStart p x y z ∧ [x, y, z].count .dominant ≤ 1) ∧ RunEndedBefore s p 2 n)
          ∨ ((∃ c rival, row = .characterReceived p (.delivered c) rival) ∧ RunEndedBefore s p 2 n)
          ∨ (∃ samples, row = .idleGap ⟨p, samples⟩ ∧ 96 ≤ samples ∧ (s.port p).tx.driving = false ∧ RunEnded s p samples n) →
        let u := s.withRun p (some ⟨s.clock, n⟩)
        (88 ≤ n → n < 512 → exec row s = execAll [.shortBreak p n, row] u)
          ∧ (512 ≤ n → n < 2048 → exec row s = execAll [.longBreak p n, row] u)
          ∧ (2048 ≤ n → exec row s = execAll [.stuckLine ⟨p, n⟩ .blocksFirst, row] u))
      ∧ ∀ (c : Character) (rival : Option Rival),
        NothingFirst s p → (∀ r, rival = some r → NothingFirst s r.port) →
        ∃ t, exec (.characterReceived p (.delivered c) rival) s = .next t ∧ (t.port p).candidate = none
          ∧ (c.framing = false →
            ∃ since, (since - s.clock) * (8 * (s.port p).profile.rate.hertz) = 2 * 192000000
              ∧ (t.port p).line = ⟨false, some ⟨since, 0⟩, none, some ⟨s.clock, 2⟩, false⟩)
          ∧ (c.framing = true →
            ∃ n, 6 ≤ n ∧ (c.data.getLsbD 0 = true → n = 6)
              ∧ (t.port p).line = ⟨false, none, some ⟨s.clock, n⟩, none, false⟩)

/-- A stuck line: FAULTS once, a telegram in FILLING aborted with RX_BROKEN once, an attempt or break ended without a count of its
own: the entry stays at the head with its count, or, its deadline expired, is removed with DROP_STALE; a RUNNING port goes on in
RECOVERING, in either order of the deliveries, and a RECOVERING one is ISOLATED; a run short of 256 bit times is not declared, and the
same run is not declared twice (R10, R46, R51, R58). -/
def Obligations.StuckLineIsOneFault : Prop :=
  ∀ (s : State) (p : Port) (order : StuckOrder) (samples : Nat), Live s p →
    let stuck := 2048 ≤ samples ∨ Reached s p 2048 (s.port p).line.run
    ((s.port p).line.stuck = true ∨ ¬ stuck → exec (.stuckLine ⟨p, samples⟩ order) s = .next s)
      ∧ ((s.port p).line.stuck = false → stuck →
        ∃ t, exec (.stuckLine ⟨p, samples⟩ order) s = .next t ∧ OnlyLine p s t
          ∧ t.counter p .faults = countUp (s.counter p .faults)
          ∧ t.counter p .txArbLost = s.counter p .txArbLost ∧ t.counter p .txCollision = s.counter p .txCollision
          ∧ t.counter p .dropRetry = s.counter p .dropRetry ∧ t.counter p .txDone = s.counter p .txDone
          ∧ (∀ r, (s.port p).rx = .filling r →
            (t.buffer r.buffer).claim = .free ∧ t.counter p .rxBroken = countUp (s.counter p .rxBroken))
          ∧ ((s.port p).rx = .search ∨ (s.port p).rx = .skip → t.counter p .rxBroken = s.counter p .rxBroken)
          ∧ ((s.port p).mode = .running →
            (t.port p).mode = .recovering ∧ (t.port p).tx.driving = false ∧ (t.port p).line.stuck = true
              ∧ (∀ other, exec (.stuckLine ⟨p, samples⟩ other) s = .next t)
              ∧ ((s.port p).rx = .search ∨ (s.port p).rx = .skip → (t.port p).rx = (s.port p).rx)
              ∧ (∀ r, (s.port p).rx = .filling r → (t.port p).rx = .skip)
              ∧ (∀ since, (s.port p).tx = .breaking since →
                (t.port p).queue = (s.port p).queue ∧ (t.port p).tx = restState (s.port p).hasWork)
              ∧ ∀ a e rest, (s.port p).tx.attempt = some a → a.completed = false → (s.port p).queue = e :: rest →
                let freed := match (s.port p).rx.buffer with
                  | some i => s.freeBuffer i
                  | none => s
                (a.expired = false → (t.port p).queue = e :: rest ∧ (t.port p).tx = .waitGap ∧ t.pool = freed.pool
                    ∧ t.mgmt = s.mgmt ∧ t.counter p .dropStale = s.counter p .dropStale)
                  ∧ (a.expired = true → t.counter p .dropStale = countUp (s.counter p .dropStale) ∧ HeadGone p e rest freed t
                    ∧ (t.port p).tx = restState ((s.port p).breakPending || !rest.isEmpty)))
          ∧ ((s.port p).mode = .recovering →
            (t.port p).mode = .isolated ∧ (t.port p).rx = .deaf ∧ (t.port p).tx = .halted ∧ (t.port p).queue = []))

/-! ## Transmission -/

/-- An attempt that loses arbitration or collides is counted once, and its capture is no longer the port's own. Its entry is retried
with a raised failed-attempt count, or removed at the retry limit with DROP_RETRY, or, its deadline expired, removed with DROP_STALE
and no raised count (R23, R42, R43, R44, R51). -/
def Obligations.FailedAttemptIsRetriedOrRemoved : Prop :=
  ∀ (s : State) (p : Port) (c : Instr) (counted : CounterName) (a : Attempt) (e : EgressEntry) (rest : List EgressEntry),
    Live s p → a.completed = false → (s.port p).queue = e :: rest →
      (c = .arbitrationLost p ∧ counted = .txArbLost ∧ (s.port p).tx = .arbitrating a)
        ∨ (c = .collision p ∧ counted = .txCollision
          ∧ ((s.port p).tx = .arbitrating a ∨ (s.port p).tx = .sending a)) →
      ∃ t, exec c s = .next t ∧ OnlyLine p s t ∧ (t.port p).rx = (s.port p).rx.unmarked
        ∧ (t.port p).mode = (s.port p).mode ∧ (t.port p).profile = (s.port p).profile
        ∧ (t.port p).breakPending = (s.port p).breakPending
        ∧ (a.expired = false → e.failed + 1 < (s.port p).profile.retryLimit →
          (t.port p).counters = (s.port p).counters.raise counted
            ∧ (t.port p).queue = { e with failed := e.failed + 1 } :: rest ∧ t.pool = s.pool ∧ t.mgmt = s.mgmt
            ∧ (t.port p).tx = .waitGap)
        ∧ (a.expired = false → (s.port p).profile.retryLimit ≤ e.failed + 1 →
          (t.port p).counters = ((s.port p).counters.raise counted).raise .dropRetry ∧ HeadGone p e rest s t
            ∧ (t.port p).tx = restState ((s.port p).breakPending || !rest.isEmpty))
        ∧ (a.expired = true →
          (t.port p).counters = ((s.port p).counters.raise counted).raise .dropStale ∧ HeadGone p e rest s t
            ∧ (t.port p).tx = restState ((s.port p).breakPending || !rest.isEmpty))

/-- A drive fault ends the attempt or break without counting it, and is then taken as a fault: the entry stays at the head with its
count, or is stale, and a port already RECOVERING is closed and its queue flushed (R45, R59, R60). That the recessive period is measured
from this moment where no row has told that the line turned dominant is the model's choice: log entry 19. -/
def Obligations.DriveFaultEndsSending : Prop :=
  ∀ (s : State) (p : Port), Live s p → (s.port p).tx.driving = true →
    ∃ t, exec (.driveFault p) s = .next t ∧ OnlyLine p s t
      ∧ t.counter p .faults = countUp (s.counter p .faults)
      ∧ t.counter p .txArbLost = s.counter p .txArbLost ∧ t.counter p .txCollision = s.counter p .txCollision
      ∧ t.counter p .dropRetry = s.counter p .dropRetry
      ∧ ((s.port p).mode = .recovering → (t.port p).mode = .isolated ∧ (t.port p).queue = [] ∧ (t.port p).tx = .halted)
      ∧ ((s.port p).mode = .running → (t.port p).mode = .recovering
        ∧ (t.port p).line = { (s.port p).line with
          rest := if (s.port p).line.rest = none ∧ (s.port p).line.run = none then some ⟨s.clock, 0⟩ else (s.port p).line.rest })
      ∧ ((s.port p).mode = .running → ∀ since, (s.port p).tx = .breaking since →
        (t.port p).queue = (s.port p).queue ∧ (t.port p).tx = restState (s.port p).hasWork ∧ (t.port p).rx = (s.port p).rx
          ∧ t.pool = s.pool ∧ t.mgmt = s.mgmt)
      ∧ ((s.port p).mode = .running → ∀ a e rest, (s.port p).tx.attempt = some a → (s.port p).queue = e :: rest →
        (t.port p).rx = (s.port p).rx.unmarked
          ∧ (a.expired = false → (t.port p).queue = e :: rest ∧ (t.port p).tx = .waitGap ∧ t.pool = s.pool ∧ t.mgmt = s.mgmt)
          ∧ (a.expired = true →
            t.counter p .dropStale = countUp (s.counter p .dropStale) ∧ HeadGone p e rest s t
              ∧ (t.port p).tx = restState ((s.port p).breakPending || !rest.isEmpty)))

/-- An attempt completes at its last stop bit: probation ends, nothing is counted, and the entry awaits its echo verdict at the head, or,
where the receiver holds no own capture, leaves at once (R47, R48, R61). That the row completes an attempt in ARBITRATING too, where the
table of 3.8 has a dash, is the model's choice: log entry 10. -/
def Obligations.AttemptCompletes : Prop :=
  ∀ (s : State) (p : Port) (a : Attempt) (e : EgressEntry) (rest : List EgressEntry),
    Live s p → (s.port p).tx = .sending a ∨ (s.port p).tx = .arbitrating a → a.completed = false →
      (s.port p).queue = e :: rest →
      ∃ t, exec (.attemptCompletion p) s = .next t ∧ OnlyLine p s t ∧ (t.port p).rx = (s.port p).rx
        ∧ (t.port p).counters = (s.port p).counters ∧ (t.port p).mode = (s.port p).mode.afterReport
        ∧ (t.port p).profile = (s.port p).profile ∧ (t.port p).breakPending = (s.port p).breakPending
        ∧ ((s.port p).rx.holdsOwn = true →
          (t.port p).tx = .sending { a with completed := true } ∧ (t.port p).queue = e :: rest ∧ t.pool = s.pool
            ∧ t.mgmt = s.mgmt)
        ∧ ((s.port p).rx.holdsOwn = false →
          HeadGone p e rest s t ∧ (t.port p).tx = restState ((s.port p).breakPending || !rest.isEmpty))

/-- The end of a break: the transmitter rests, nothing is counted, probation goes on. The deadline of an entry being sent sets the
expired mark, and after completion it does nothing. The deadline of a waiting entry removes it from wherever it stands, with DROP_STALE
(R50, R51, R53). -/
def Obligations.BreakEndAndDeadlines : Prop :=
  ∀ (s : State) (p : Port), Live s p →
    (∀ since, (s.port p).tx = .breaking since →
      exec (.breakEnd p) s = .next (s.setPort p
        { s.port p with tx := restState (s.port p).hasWork, ownStart := false }))
    ∧ (∀ a, a.completed = false →
      ((s.port p).tx = .arbitrating a → exec (.deadlineExpiryDuringAttempt p) s = .next (s.setPort p
        { s.port p with tx := .arbitrating { a with expired := true } }))
      ∧ ((s.port p).tx = .sending a → exec (.deadlineExpiryDuringAttempt p) s = .next (s.setPort p
        { s.port p with tx := .sending { a with expired := true } })))
    ∧ (∀ a, (s.port p).tx = .sending a → a.completed = true → exec (.deadlineExpiryDuringAttempt p) s = .next s)
    ∧ (∀ e before after, (s.port p).queue = before ++ e :: after → (s.port p).refs.Nodup →
      (∀ a, (s.port p).tx.attempt = some a → a.entry ≠ e.ref) →
      ∃ t, exec (.entryDeadlineExpiry p e.ref) s = .next t ∧ OnlyLine p s t
        ∧ (t.port p).queue = before ++ after ∧ t.pool = (s.release e.ref).pool ∧ t.mgmt = (s.release e.ref).mgmt
        ∧ (t.port p).counters = (s.port p).counters.raise .dropStale ∧ (t.port p).mode = (s.port p).mode
        ∧ (t.port p).rx = (s.port p).rx ∧ (t.port p).breakPending = (s.port p).breakPending
        ∧ (t.port p).tx = if (s.port p).tx = .waitGap then restState ((s.port p).breakPending || !(before ++ after).isEmpty)
            else (s.port p).tx)

/-! ## Port supervision -/

/-- A fault of any kind counts FAULTS, moves RUNNING to RECOVERING and closes a RECOVERING port as ISOLATED; it does not reach a closed
port, and it changes neither the state nor the counters of another port (R60). -/
def Obligations.SecondFaultIsolatesPort : Prop :=
  ∀ (s : State) (p : Port) (c : Instr), s.phase = .started →
    ((∃ order samples, c = .stuckLine ⟨p, samples⟩ order ∧ (2048 ≤ samples ∨ Reached s p 2048 (s.port p).line.run))
        ∧ (s.port p).line.stuck = false)
      ∨ (c = .telegramTimeLimitExpiry p ∧ ∃ r, (s.port p).rx = .filling r)
      ∨ (c = .driveFault p ∧ (s.port p).tx.driving = true) →
    ∃ t, exec c s = .next t
      ∧ ((s.port p).mode = .running → (t.port p).mode = .recovering ∧ t.counter p .faults = countUp (s.counter p .faults))
      ∧ ((s.port p).mode = .recovering →
        (t.port p).mode = .isolated ∧ t.counter p .faults = countUp (s.counter p .faults)
          ∧ (t.port p).rx = .deaf ∧ (t.port p).tx = .halted ∧ (t.port p).breakPending = false ∧ (t.port p).queue = [])
      ∧ ((s.port p).mode = .isolated ∨ (s.port p).mode = .off → t = s)
      ∧ ∀ q, q ≠ p → (t.port q).mode = (s.port q).mode ∧ (t.port q).counters = (s.port q).counters

/-- PORT CONTROL on an OPEN bridge, its port byte 0, 1 or 2 for A, B or C: RESTORE moves an ISOLATED port, other than the ingress port, to RECOVERING; DISABLE moves any port to
OFF; ENABLE moves an OFF port to RUNNING; any other is PORT_STATE and changes no port; an action code outside the three, or a port code
outside A, B and C, is BAD_ARGUMENT. The reply carries the port's state after the command (R65, R66, R67, R68, R157). The line of a port that opens is measured from that moment (R36); that both
its levels are, until a row tells which it has, is the model's choice: log entry 12. -/
def Obligations.PortControlMovesNamedPort : Prop :=
  (portOf 0 = some .a ∧ portOf 1 = some .b ∧ portOf 2 = some .c ∧ ∀ port : Byte, 3 ≤ port.toNat → portOf port = none)
  ∧ ∀ (s : State) (ingress p : Port) (source port : Byte), Ready s → s.mgmt.level = .open → portOf port = some p →
    let opened (mode : PortMode) : State := s.setPort p
      { s.port p with
        mode := mode, rx := .search, tx := .idle, breakPending := false, candidate := none, ownStart := false
        line := ⟨false, some ⟨s.clock, 0⟩, some ⟨s.clock, 0⟩, none, false⟩ }
    ((s.port p).mode = .isolated → p ≠ ingress →
      exec (.restore ingress source port) s = replied ingress source 0x21 .ok [1] (opened .recovering))
    ∧ ((s.port p).mode ≠ .isolated ∨ p = ingress →
      exec (.restore ingress source port) s = replied ingress source 0x21 .portState [(s.port p).mode.code] s)
    ∧ ((s.port p).mode = .off → exec (.enable ingress source port) s = replied ingress source 0x21 .ok [0] (opened .running))
    ∧ ((s.port p).mode ≠ .off →
      exec (.enable ingress source port) s = replied ingress source 0x21 .portState [(s.port p).mode.code] s)
    ∧ ((s.port p).mode.isOpen = true →
      exec (.disable ingress source port) s = replied ingress source 0x21 .ok [3] (closePort p .off s))
    ∧ ((s.port p).mode.isOpen = false →
      exec (.disable ingress source port) s
        = replied ingress source 0x21 .ok [3] (s.setPort p { s.port p with mode := .off }))
    ∧ (∀ action : Byte, action = 0 ∨ 3 < action.toNat →
      exec (.portControlUnknownAction ingress source port action) s = replied ingress source 0x21 .badArgument [] s)
    ∧ (∀ other, 3 ≤ other.toNat →
      exec (.restore ingress source other) s = replied ingress source 0x21 .badArgument [] s
        ∧ exec (.disable ingress source other) s = replied ingress source 0x21 .badArgument [] s
        ∧ exec (.enable ingress source other) s = replied ingress source 0x21 .badArgument [] s)

/-- SEND BREAK on an OPEN bridge sets the break-pending mark of an open port that has none pending, and an idle transmitter begins or
waits for the gap; in every other case it is PORT_STATE, and the port byte is 0, 1 or 2 for A, B or C, any other
being BAD_ARGUMENT (R38, R52, R157). That a begun break leaves the line not idle and neither its rest nor its run measured, until a
candidate start bit's row tells of it, is the model's choice: log entries 12 and 19. -/
def Obligations.SendBreakRequestsOneBreak : Prop :=
  (portOf 0 = some .a ∧ portOf 1 = some .b ∧ portOf 2 = some .c ∧ ∀ port : Byte, 3 ≤ port.toNat → portOf port = none)
  ∧ ∀ (s : State) (ingress p : Port) (source port : Byte), Ready s → s.mgmt.level = .open → portOf port = some p →
    ((s.port p).mode.isOpen = true → (s.port p).breakPending = false →
      exec (.sendBreak ingress source port) s = replied ingress source 0x22 .ok [(s.port p).mode.code] (s.setPort p
        (if (s.port p).tx = .idle ∧ (s.port p).line.idle = true then
          { s.port p with
            tx := .breaking s.clock, ownStart := false
            line := { (s.port p).line with idle := false, rest := none, run := none } }
        else
          { s.port p with
            breakPending := true, tx := if (s.port p).tx = .idle then .waitGap else (s.port p).tx })))
    ∧ ((s.port p).mode.isOpen = false ∨ (s.port p).breakPending = true →
      exec (.sendBreak ingress source port) s = replied ingress source 0x22 .portState [(s.port p).mode.code] s)
    ∧ ∀ other, 3 ≤ other.toNat →
      exec (.sendBreak ingress source other) s = replied ingress source 0x22 .badArgument [] s

/-! ## Buffers, queues, counters -/

/-- An event raises its own counter and no other (R84). No command lowers a port counter on a started bridge but CLEAR COUNTERS, given as a row or as a telegram that is classified, and a
counter at its maximum stays there (R84). -/
def Obligations.CountersNeverFall : Prop :=
  (∀ n : Count, (n.toNat < 4294967295 → (countUp n).toNat = n.toNat + 1) ∧ (n.toNat = 4294967295 → countUp n = n))
    ∧ (∀ (v : Counters) (k other : CounterName),
      (v.raise k).read other = if other = k then countUp (v.read k) else v.read other)
    ∧ ∀ (c : Instr) (s t : State) (p : Port) (k : CounterName),
      s.phase = .started → exec c s = .next t → t.phase = .started →
        (c = .classification → ∀ i rest port, s.classQueue = i :: rest → isCommand s (s.buffer i).telegram = true →
          decodePayload ((s.buffer i).telegram.payload.take (s.buffer i).telegram.length) ≠ .clearCounters port) →
        (∀ h, commandOf c = some h → ∀ port, h.2.2 ≠ .clearCounters port) →
        s.counter p k ≤ t.counter p k

/-- READ PORT COUNTERS reports the six counters of a group in the places of 5.6, each in four bytes, more significant byte first, and changes
nothing, at either access level; the port byte is 0, 1 or 2 for A, B or C; CLEAR COUNTERS on
an OPEN bridge sets the 18 counters of its port to 0 and changes nothing else; a port or group that is none is BAD_ARGUMENT (R85, R86). -/
def Obligations.CountersAreReadAndCleared : Prop :=
  (portOf 0 = some .a ∧ portOf 1 = some .b ∧ portOf 2 = some .c ∧ ∀ port : Byte, 3 ≤ port.toNat → portOf port = none)
  ∧ (∀ n : Count, ∃ a b c d : Byte, countBytes n = [a, b, c, d]
    ∧ n.toNat = 16777216 * a.toNat + 65536 * b.toNat + 256 * c.toNat + d.toNat)
  ∧ ∀ (s : State) (ingress : Port) (source port group : Byte), Ready s →
    (∀ p (g : Fin 3), portOf port = some p → group.toNat = g.val →
      exec (.readPortCounters ingress source port group) s = replied ingress source 0x03 .ok
        ([port, group] ++ (List.map (s.counter p) (match g with
          | 0 => [.rxGood, .rxChecksum, .rxNoisyDropped, .rxBroken, .rxTimeout, .rxNoBuffer]
          | 1 => [.dropRoute, .dropOverflow, .busySkips, .mgmtBusy, .txDone, .txArbLost]
          | 2 => [.txCollision, .dropRetry, .dropStale, .dropQueueFull, .dropPortClosed, .faults])).flatMap countBytes) s)
    ∧ (portOf port = none ∨ 3 ≤ group.toNat →
      exec (.readPortCounters ingress source port group) s = replied ingress source 0x03 .badArgument [] s)
    ∧ (s.mgmt.level = .open → ∀ p, portOf port = some p →
      exec (.clearCounters ingress source port) s
        = replied ingress source 0x04 .ok [] (s.setPort p { s.port p with counters := Vector.replicate 18 0 }))
    ∧ (s.mgmt.level = .open → portOf port = none →
      exec (.clearCounters ingress source port) s = replied ingress source 0x04 .badArgument [] s)

/-- A reply is discarded with DROP_PORT_CLOSED on a closed port and with DROP_QUEUE_FULL on a full queue, the unit staying as it was; else
its entry stands at the tail with the port's hold limit as its deadline, the unit is REPLY_PENDING, and an idle transmitter begins on
an idle line or waits for the gap (R38, R78, R83). A reply is a class-7 telegram from the management address to the command's source, with
the command code, the result code of 11.2 and the data in its payload, and their number in its length (R153). -/
def Obligations.ReplyIsPlacedOrDiscarded : Prop :=
  (∀ (address source code : Byte) (result : Result) (data : List Byte), data.length ≤ 29 →
    let t := replyTelegram address source code result data
    t.destination = source ∧ t.source = address ∧ t.control.toNat = 7 * 32 + (2 + data.length) ∧ t.cls = 7 ∧ t.Whole
      ∧ t.payload = code :: (match result with
        | .ok => 0
        | .badCommand => 1
        | .badArgument => 2
        | .locked => 3
        | .storeFlags => 4
        | .accessError => 5
        | .formatError => 6
        | .protectViolation => 7
        | .keyMismatch => 8
        | .keyBarred => 9
        | .portState => 10) :: data)
  ∧ ∀ (s : State) (p : Port) (reply : Telegram),
    ((s.port p).mode.isOpen = false → placeReply p reply s = s.count p .dropPortClosed)
    ∧ ((s.port p).mode.isOpen = true → 12 ≤ (s.port p).queue.length → placeReply p reply s = s.count p .dropQueueFull)
    ∧ ((s.port p).mode.isOpen = true → (s.port p).queue.length < 12 →
      let t := placeReply p reply s
      OnlyLine p s t ∧ t.pool = s.pool ∧ t.mgmt.unit = .replyPending ∧ t.mgmt.reply = some reply ∧ t.mgmt.replyPort = some p
        ∧ (t.port p).queue = (s.port p).queue ++ [⟨.reply, s.clock + 192000 * (s.port p).profile.holdLimit, 0⟩]
        ∧ (t.port p).mode = (s.port p).mode ∧ (t.port p).rx = (s.port p).rx ∧ (t.port p).counters = (s.port p).counters
        ∧ ((s.port p).tx ≠ .idle → (t.port p).tx = (s.port p).tx)
        ∧ ((s.port p).tx = .idle → (s.port p).line.idle = false → (t.port p).tx = .waitGap)
        ∧ ((s.port p).tx = .idle → (s.port p).line.idle = true → (s.port p).breakPending = false → (s.port p).queue = [] →
          (t.port p).tx = .arbitrating ⟨.reply, 1, reply.check, false, false⟩))

/-- An entry's release lowers its buffer's reference count, and at zero the buffer is FREE; the Reply Buffer becomes EMPTY and the unit
IDLE. A closing port releases every entry of its queue, and counts DROP_PORT_CLOSED for each (R49, R62, R63, R76). -/
def Obligations.ReferencesAreReleased : Prop :=
  (∀ (s : State) (i : Fin Config.poolSize) (ingress : Port) (refs : Nat), (s.buffer i).claim = .held ingress refs →
    (2 ≤ refs → s.release (.pool i) = s.setBuffer i { s.buffer i with claim := .held ingress (refs - 1) })
      ∧ (refs = 1 → s.release (.pool i) = s.setBuffer i { s.buffer i with claim := .free }))
    ∧ (∀ s : State, s.release .reply = { s with mgmt := { s.mgmt with unit := .idle, reply := none, replyPort := none } })
    ∧ (∀ (s : State) (p : Port) (mode : PortMode), (s.port p).mode.isOpen = true →
      let t := closePort p mode s
      OnlyLine p s t ∧ (t.port p).mode = mode ∧ (t.port p).rx = .deaf ∧ (t.port p).tx = .halted ∧ (t.port p).queue = []
        ∧ (t.port p).breakPending = false ∧ (t.port p).profile = (s.port p).profile
        ∧ t.counter p .dropPortClosed = countUp^[(s.port p).queue.length] (s.counter p .dropPortClosed)
        ∧ t.counter p .faults = s.counter p .faults ∧ t.counter p .dropStale = s.counter p .dropStale
        ∧ t.counter p .txDone = s.counter p .txDone ∧ t.counter p .dropRetry = s.counter p .dropRetry
        ∧ (∀ r, (s.port p).rx = .filling r →
          (t.buffer r.buffer).claim = .free ∧ t.counter p .rxBroken = countUp (s.counter p .rxBroken))
        ∧ (BufferRef.reply ∈ (s.port p).refs → t.mgmt.unit = .idle ∧ t.mgmt.reply = none ∧ t.mgmt.replyPort = none)
        ∧ (BufferRef.reply ∉ (s.port p).refs → t.mgmt = s.mgmt)
        ∧ ∀ i ingress, (s.port p).refs.Nodup → BufferRef.pool i ∈ (s.port p).refs → (s.port p).rx.buffer ≠ some i →
          ((s.buffer i).claim = .held ingress 1 → (t.buffer i).claim = .free)
            ∧ ((s.buffer i).claim = .held ingress 2 → (t.buffer i).claim = .held ingress 1))

/-! ## The Route Table and classification -/

/-- A telegram matches a route entry's key when its ingress port is in the ingress set, every address bit under a mask is the value's,
and the class is the class match or the match is ANY (R95). -/
def Obligations.KeyMatchesUnderMasks : Prop :=
  ∀ (e : RouteEntry) (ingress : Port) (t : Telegram),
    e.matches ingress t = true ↔
      e.ingress.get ingress = true
        ∧ (∀ k, k < 8 → e.destination.mask.getLsbD k = true → t.destination.getLsbD k = e.destination.value.getLsbD k)
        ∧ (∀ k, k < 8 → e.source.mask.getLsbD k = true → t.source.getLsbD k = e.source.value.getLsbD k)
        ∧ (e.cls = none ∨ e.cls = some (t.control.toNat / 32))

/-- The scan comes to the decision of the first slot, in increasing order, that decides among those not in a busy segment; with none it
ends undecided, noting whether a route segment is busy. Only a slot that reads WRITTEN, whose entry the telegram matches, can decide:
by its true action without a test or with a true one, else by its false action. The busy segments are those of the running operation, for
ERASE ALL and WIPE the one being erased and for BLANK CHECK none, and of the waiting one; a slot of a QUARANTINED segment reads TORN, and any
other as it stands (R91, R96, R108, R128). -/
def Obligations.ScanStopsAtFirstDeciding : Prop :=
  (∀ slot : Byte, (segmentOfSlot slot).val = slot.toNat / 16) ∧ (∀ i : Fin 240, (routeSlot i).toNat = i.val)
  ∧ (∀ (s : State) (g : Segment), s.ctrl.busy g = true ↔
    (∃ r, s.ctrl.running = some r ∧ match r.work with
      | .slot (.program slot _) => slot.toNat / 16 = g.val
      | .slot (.retire slot) => slot.toNat / 16 = g.val
      | .eraseSegment h => h = g
      | .eraseAll _ current => current = g
      | .wipe _ current => current = g
      | .blankCheck _ => False)
    ∨ ∃ w, s.ctrl.waiting = some w ∧ match w with
      | .program slot _ => slot.toNat / 16 = g.val
      | .retire slot => slot.toNat / 16 = g.val)
  ∧ (∀ (s : State) (slot : Byte) (g : Segment), g.val = slot.toNat / 16 →
    s.readSlot slot = if s.ctrl.quarantined[g] = true then .torn else s.store.slots[slot.toNat])
  ∧ ∀ (s : State) (ingress : Port) (t : Telegram),
    let busy (i : Fin 240) : Prop := s.ctrl.busy (segmentOfSlot (routeSlot i)) = true
    (∀ d, scanTable s ingress t = .decided d ↔
      ∃ i, ¬ busy i ∧ slotVerdict s ingress t i = some d ∧ ∀ j, j < i → ¬ busy j → slotVerdict s ingress t j = none)
    ∧ (∀ noted, scanTable s ingress t = .undecided noted ↔
      (∀ i, ¬ busy i → slotVerdict s ingress t i = none) ∧ (noted = true ↔ ∃ i, busy i))
    ∧ (∀ i d, slotVerdict s ingress t i = some d ↔
      ∃ image e, s.readSlot (routeSlot i) = .written image ∧ decodeRoute image = some e ∧ e.matches ingress t = true
        ∧ ((e.test = none ∧ d = ⟨e.forward, e.rewrite, none, some i⟩)
          ∨ ∃ f, e.test = some f
            ∧ ((f.holds t = true ∧ d = ⟨e.forward, e.rewrite, e.adjust.map fun a => (f, a), some i⟩)
              ∨ (f.holds t = false ∧ f.falseAction = .drop ∧ d = ⟨PortSet.empty, none, none, some i⟩)
              ∨ (f.holds t = false ∧ f.falseAction = .default
                ∧ d = ⟨(s.port ingress).profile.defaultAction, none, none, some i⟩))))

/-- The field test: the field's value by width and sign, a field beyond the payload short and false, and the condition true exactly when
an indicator of its mask is set, LT, EQ and GT by the exact difference and BEYOND by its magnitude against the band (R109, R110,
R111). -/
def Obligations.FieldTestIsExact : Prop :=
  ∀ (f : FieldTest) (t : Telegram),
    (t.length < f.offset + f.width.bytes → f.value t = none ∧ f.holds t = false)
    ∧ (f.offset + f.width.bytes ≤ t.length →
      let m : Int := (t.payload.getD f.offset 0).toNat
      let n : Int := (t.payload.getD (f.offset + 1) 0).toNat
      ∃ v, f.value t = some v
        ∧ (f.width = .byte → v = if f.signed = true ∧ 127 < m then m - 256 else m)
        ∧ (f.width = .word → v = if f.signed = true ∧ 127 < m then 256 * m + n - 65536 else 256 * m + n)
        ∧ (f.holds t = true ↔
          (f.condition.lt = true ∧ v < f.reference) ∨ (f.condition.eq = true ∧ v = f.reference)
            ∨ (f.condition.gt = true ∧ f.reference < v)
            ∨ (f.condition.beyond = true ∧ ((f.band : Int) < v - f.reference ∨ (f.band : Int) < f.reference - v))))

/-- An adjustment adds its amount to the field exactly. A result in the field's range is what the field then reads; one outside it drops
the telegram under DROP, reads as the nearest limit under CLAMP, and as two's complement of the field's width gives under WRAP. No byte
outside the field changes (R116, R117). -/
def Obligations.AdjustmentStaysInField : Prop :=
  (fieldRange .byte false = (0, 255) ∧ fieldRange .byte true = (-128, 127)
    ∧ fieldRange .word false = (0, 65535) ∧ fieldRange .word true = (-32768, 32767)
    ∧ Width.byte.modulus = 256 ∧ Width.word.modulus = 65536 ∧ Width.byte.bytes = 1 ∧ Width.word.bytes = 2)
  ∧ ∀ (f : FieldTest) (a : Adjustment) (t : Telegram) (v : Int),
    t.Whole → f.offset + f.width.bytes ≤ t.length → f.value t = some v →
      let low := (fieldRange f.width f.signed).1
      let high := (fieldRange f.width f.signed).2
      let r := v + a.amount
      ((r < low ∨ high < r) → a.policy = .drop → adjustTelegram (some (f, a)) t = none)
      ∧ (¬ ((r < low ∨ high < r) ∧ a.policy = .drop) →
        ∃ u w, adjustTelegram (some (f, a)) t = some u ∧ f.value u = some w
          ∧ u.destination = t.destination ∧ u.source = t.source ∧ u.control = t.control
          ∧ u.payload.length = t.payload.length
          ∧ (∀ k, k < f.offset ∨ f.offset + f.width.bytes ≤ k → u.payload[k]? = t.payload[k]?)
          ∧ (low ≤ r → r ≤ high → w = r)
          ∧ (a.policy = .clamp → r < low → w = low) ∧ (a.policy = .clamp → high < r → w = high)
          ∧ (a.policy = .wrap → low ≤ w ∧ w ≤ high ∧ ∃ k : Int, w = r + k * f.width.modulus))

/-- An ordinary telegram, one that is not of class 7 to the management address, whose decision, its ingress port removed, names a port that is left, and whose adjustment does not drop it: the
changed telegram is named once on each open port of the set with room, a refused copy is counted at its port, the deciding entry's hit
counter is raised, and the buffer is HELD by its entries or FREE; the transmitter of a port that takes an entry begins if it is idle on
an idle line, waits for the gap if it is idle on another, and else stays as it is (R38, R39, R80, R81, R98, R112, R114 to R119). Only the
telegram's own ingress port is removed from the set: log entry 18. -/
def Obligations.ClassificationForwards : Prop :=
  (∀ (s : State) (t : Telegram), isCommand s t = true ↔ t.control.toNat / 32 = 7 ∧ t.destination = s.address)
  ∧ (∀ t : Telegram, rewriteTelegram none t = t ∧ adjustTelegram none t = some t
    ∧ ∀ d, rewriteTelegram (some d) t = { t with destination := d })
  ∧ ∀ (s : State) (i : Fin Config.poolSize) (rest : List (Fin Config.poolSize)) (ingress : Port) (d : Decision) (noted : Bool)
      (sent : Telegram),
    s.phase = .started → s.classQueue = i :: rest → (s.buffer i).claim = .waiting ingress →
      isCommand s (s.buffer i).telegram = false →
      (scanTable s ingress (s.buffer i).telegram = .decided d ∧ noted = false)
        ∨ (scanTable s ingress (s.buffer i).telegram = .undecided noted
          ∧ d = ⟨(s.port ingress).profile.defaultAction, none, none, none⟩) →
      (∃ q, q ≠ ingress ∧ d.forward.get q = true) →
      adjustTelegram d.adjust (rewriteTelegram d.rewrite (s.buffer i).telegram) = some sent →
      let takes (q : Port) : Bool :=
        decide (q ≠ ingress) && d.forward.get q && (s.port q).mode.isOpen && decide ((s.port q).queue.length < 12)
      let placed := ([Port.a, .b, .c].filter takes).length
      ∃ t, exec .classification s = .next t
        ∧ t.classQueue = rest ∧ t.mgmt = s.mgmt ∧ t.store = s.store ∧ t.ctrl = s.ctrl ∧ t.phase = s.phase
        ∧ t.clock = s.clock ∧ t.address = s.address ∧ t.straps = s.straps ∧ t.record = s.record
        ∧ t.hits = (match d.entry with
          | some k => s.hits.set k (countUp s.hits[k])
          | none => s.hits)
        ∧ (∀ j, j ≠ i → t.buffer j = s.buffer j)
        ∧ t.buffer i = ⟨if placed = 0 then .free else .held ingress placed, sent⟩
        ∧ t.port ingress = (if noted then
          { s.port ingress with counters := (s.port ingress).counters.raise .busySkips } else s.port ingress)
        ∧ ∀ q, q ≠ ingress →
          (d.forward.get q = false → t.port q = s.port q)
          ∧ (d.forward.get q = true → (s.port q).mode.isOpen = false →
            t.port q = { s.port q with counters := (s.port q).counters.raise .dropPortClosed })
          ∧ (d.forward.get q = true → (s.port q).mode.isOpen = true → 12 ≤ (s.port q).queue.length →
            t.port q = { s.port q with counters := (s.port q).counters.raise .dropQueueFull })
          ∧ (takes q = true →
            (t.port q).queue
                = (s.port q).queue ++ [⟨.pool i, s.clock + 192000 * (s.port q).profile.holdLimit, 0⟩]
              ∧ (t.port q).counters = (s.port q).counters ∧ (t.port q).mode = (s.port q).mode
              ∧ (t.port q).rx = (s.port q).rx
              ∧ ((s.port q).tx ≠ .idle →
                (t.port q).tx = (s.port q).tx ∧ (t.port q).line = (s.port q).line
                  ∧ (t.port q).breakPending = (s.port q).breakPending)
              ∧ ((s.port q).tx = .idle → (s.port q).line.idle = false → (t.port q).tx = .waitGap)
              ∧ ((s.port q).tx = .idle → (s.port q).line.idle = true → (s.port q).breakPending = false →
                (s.port q).queue = [] → (t.port q).tx = .arbitrating ⟨.pool i, 1, sent.check, false, false⟩))

/-- An ordinary telegram whose decision leaves no port once the ingress port is removed counts DROP_ROUTE there, and one whose adjustment
overflows under DROP counts DROP_OVERFLOW there; in both the buffer is FREE, the deciding entry's hit counter is raised, and no other
port changes (R98, R114, R117). -/
def Obligations.ClassificationDrops : Prop :=
  ∀ (s : State) (i : Fin Config.poolSize) (rest : List (Fin Config.poolSize)) (ingress : Port) (d : Decision) (noted : Bool),
    s.phase = .started → s.classQueue = i :: rest → (s.buffer i).claim = .waiting ingress →
      isCommand s (s.buffer i).telegram = false →
      (scanTable s ingress (s.buffer i).telegram = .decided d ∧ noted = false)
        ∨ (scanTable s ingress (s.buffer i).telegram = .undecided noted
          ∧ d = ⟨(s.port ingress).profile.defaultAction, none, none, none⟩) →
      ∀ counted,
        (counted = .dropRoute ∧ (∀ q, d.forward.get q = true → q = ingress))
          ∨ (counted = .dropOverflow ∧ (∃ q, q ≠ ingress ∧ d.forward.get q = true)
            ∧ adjustTelegram d.adjust (rewriteTelegram d.rewrite (s.buffer i).telegram) = none) →
        let skipped := if noted then (s.port ingress).counters.raise .busySkips else (s.port ingress).counters
        ∃ t, exec .classification s = .next t
          ∧ t = { s with
            classQueue := rest
            pool := s.pool.set i { s.buffer i with claim := .free }
            ports := s.ports.set ingress { s.port ingress with counters := skipped.raise counted }
            hits := match d.entry with
              | some k => s.hits.set k (countUp s.hits[k])
              | none => s.hits }

/-- Every management row is what the classification of its telegram does: a class-7 telegram to the management address, with the row's
payload, at the head of the Classification Queue, has exactly the row's effect once its buffer is FREE. No bit of a command's encoding is
dropped (R105, R106, R152, R162). -/
def Obligations.CommandTelegramActsAsItsRow : Prop :=
  ∀ (c : Instr) (s : State) (ingress : Port) (m : MgmtCommand) (i : Fin Config.poolSize)
      (rest : List (Fin Config.poolSize)) (t : Telegram),
    c.wellFormed = true → commandOf c = some (ingress, t.source, m) →
      s.phase = .started → s.classQueue = i :: rest → s.buffer i = ⟨.waiting ingress, t⟩ →
      t.cls = 7 → t.destination = s.address → t.Whole → payloadOf c = some t.payload →
      exec .classification s = exec c ({ s with classQueue := rest }.freeBuffer i)

/-! ## Management commands -/

/-- A command that finds the Management Unit not ready, REPLY_PENDING or with its restart mark set, is discarded: MGMT_BUSY is counted on its
ingress port and nothing else changes (R107). -/
def Obligations.CommandFindsUnitBusy : Prop :=
  ∀ (c : Instr) (s : State) (ingress : Port) (source : Byte) (m : MgmtCommand),
    commandOf c = some (ingress, source, m) → s.phase = .started →
      s.mgmt.unit = .replyPending ∨ s.mgmt.restartMark = true →
      exec c s = .next (s.count ingress .mgmtBusy)

/-- A LOCKED bridge refuses with LOCKED, and no effect but the reply, CLEAR COUNTERS, PORT CONTROL, SEND BREAK, RESTART, every EXECUTE but
WIPE and BLANK CHECK, and STAGE, ABORT STAGE, WIPE and BLANK CHECK on a port other than the maintenance port; a payload of no command is
refused before that check, with BAD_COMMAND (R149, R152). -/
def Obligations.LockedBridgeRefuses : Prop :=
  ∀ (c : Instr) (s : State) (ingress : Port) (source : Byte) (m : MgmtCommand),
    commandOf c = some (ingress, source, m) → Ready s → s.mgmt.level = .locked →
      (∀ payload, c = .unknownCommand ingress source payload → payloadKnown payload = false →
        exec c s = replied ingress source (payload.headD 0) .badCommand [] s)
      ∧ ((match m with
        | .clearCounters _ => True
        | .portControl _ _ => True
        | .sendBreak _ => True
        | .restart => True
        | .stage _ _ => s.straps.maint ≠ some ingress
        | .abortStage => s.straps.maint ≠ some ingress
        | .execute operation _ => s.straps.maint ≠ some ingress ∨ (operation ≠ 5 ∧ operation ≠ 6)
        | .status => False
        | .readEntry _ => False
        | .readPortCounters _ _ => False
        | .unlock _ => False
        | .raiseProtection _ => False
        | .clearStoreFlags => False
        | .bad _ => False) →
      exec c s = replied ingress source m.code .locked [] s)

/-- STATUS and READ ENTRY change nothing but by placing their reply, at either access level. STATUS reports the values of R155 in the places
of 11.3; READ ENTRY the slot as it reads, its hit counter, and its image where it has one to show. A payload of no command is answered
BAD_COMMAND with its code byte, 0 where it is empty (R101, R152, R153, R155, R162). The codes of states and the bits of the store flags
byte are those of 11.3, and a number of two or four bytes has its more significant byte first (1.5, 11.3). -/
def Obligations.ReadsChangeNothing : Prop :=
  (PortMode.running.code = 0 ∧ PortMode.recovering.code = 1 ∧ PortMode.isolated.code = 2 ∧ PortMode.off.code = 3
    ∧ AccessLevel.open.code = 0 ∧ AccessLevel.locked.code = 1
    ∧ Slot.blank.code = 0 ∧ Slot.torn.code = 3 ∧ (∀ image, (Slot.written image).code = 1 ∧ (Slot.retired image).code = 2)
    ∧ Cause.powerOn.code = 1 ∧ Cause.resetPin.code = 2 ∧ (∀ p, (Cause.lineReset p).code = 3) ∧ Cause.restart.code = 4
    ∧ maintByte none = 0 ∧ maintByte (some .a) = 1 ∧ maintByte (some .b) = 2 ∧ maintByte (some .c) = 3
    ∧ (Cause.lineReset .a).portByte = 0 ∧ (Cause.lineReset .b).portByte = 1 ∧ (Cause.lineReset .c).portByte = 2
    ∧ (∀ cause, (∀ p, cause ≠ Cause.lineReset p) → cause.portByte = 255)
    ∧ (∀ g : Segment, (boundaryByte (some g)).toNat = g.val) ∧ boundaryByte none = 255)
  ∧ (∀ n, n < 65536 → ∃ hi lo : Byte, twoBytes n = [hi, lo] ∧ n = numberOf hi lo)
  ∧ (∀ n : Count, ∃ a b c d : Byte, countBytes n = [a, b, c, d]
    ∧ n.toNat = 16777216 * a.toNat + 65536 * b.toNat + 256 * c.toNat + d.toNat)
  ∧ (∀ c : StoreController,
    c.stateCode = (if c.waiting ≠ none then 4 else if c.running ≠ none then (if c.staged ≠ none then 3 else 2)
        else if c.staged ≠ none then 1 else 0)
      ∧ (c.flagsByte.getLsbD 0 = true ↔ c.staged = none ∧ c.waiting = none)
      ∧ (c.flagsByte.getLsbD 1 = true ↔ c.running = none ∧ c.waiting = none)
      ∧ c.flagsByte.getLsbD 2 = c.accessError ∧ c.flagsByte.getLsbD 3 = c.protectViolation
      ∧ c.flagsByte.getLsbD 4 = c.formatError
      ∧ (c.flagsByte.getLsbD 5 = true ↔ c.blankResult = .blank) ∧ (c.flagsByte.getLsbD 6 = true ↔ c.blankResult = .notBlank)
      ∧ c.flagsByte.getLsbD 7 = false ∧ storeStateData c = [c.stateCode, c.flagsByte, boundaryByte c.boundary])
  ∧ ∀ (s : State) (ingress : Port) (source : Byte), Ready s →
    exec (.status ingress source) s = replied ingress source 0x01 .ok
      ([s.mgmt.level.code, BitVec.ofNat 8 s.mgmt.failed, s.ctrl.stateCode, s.ctrl.flagsByte, boundaryByte s.ctrl.boundary,
        (s.port .a).mode.code, (s.port .b).mode.code, (s.port .c).mode.code, maintByte s.straps.maint, s.record.cause.code,
        s.record.cause.portByte, s.record.count, s.address]
        ++ twoBytes (((List.range 16).map fun g => if s.ctrl.quarantined.toList.getD g false then 2 ^ g else 0).sum)
        ++ twoBytes ((List.range 256).countP fun n => decide (s.readSlot (BitVec.ofNat 8 n) = .torn))) s
    ∧ (∀ slot : Byte, exec (.readEntry ingress source slot) s = replied ingress source 0x02 .ok
      ([slot, (s.readSlot slot).code] ++ countBytes (s.hits.toList.getD slot.toNat 0)
        ++ if slot = 242 then [] else match s.readSlot slot with
          | .written image => image.toList
          | .retired image => image.toList
          | .blank => []
          | .torn => []) s)
    ∧ ∀ payload, payloadKnown payload = false →
      exec (.unknownCommand ingress source payload) s = replied ingress source (payload.headD 0) .badCommand [] s

/-- STAGE latches its target and image; refused with STORE_FLAGS while an error flag stands, and as an access error while a record is staged
or an operation waits, the staged record staying as it was (R122, R129). -/
def Obligations.StageLatchesRecord : Prop :=
  (∀ c : StoreController,
    c.flagged = true ↔ c.accessError = true ∨ c.protectViolation = true ∨ c.formatError = true)
  ∧ ∀ (s : State) (ingress : Port) (source target : Byte) (image : Option Image), ReadyOrMaint s ingress →
    (s.ctrl.flagged = true →
      exec (.stage ingress source target image) s = storeReplied ingress source 0x10 .storeFlags s)
    ∧ (s.ctrl.flagged = false → s.ctrl.staged.isSome = true ∨ s.ctrl.waiting.isSome = true →
      exec (.stage ingress source target image) s
        = storeReplied ingress source 0x10 .accessError { s with ctrl := { s.ctrl with accessError := true } })
    ∧ (s.ctrl.flagged = false → s.ctrl.staged = none → s.ctrl.waiting = none →
      exec (.stage ingress source target image) s
        = storeReplied ingress source 0x10 .ok { s with ctrl := { s.ctrl with staged := some ⟨target, image⟩ } })

/-- An EXECUTE that passes its checks launches its operation and uses up the staged record: at once where nothing runs, a PROGRAM or RETIRE
opening its segment, a WIPE setting the boundary to NONE, a BLANK CHECK setting BLANK_RESULT to NONE; and a PROGRAM or RETIRE behind
another PROGRAM or RETIRE waits (R123 to R128, R132, R136). An image that passes its checks is read byte by byte as 11.4 lays it out, and
gives every field of its route entry or configuration (R163). -/
def Obligations.ExecuteLaunchesOperation : Prop :=
  (∀ image : Image,
    (RouteImageFits image → ∃ e, decodeRoute image = some e ∧ e.Reads image)
      ∧ (ImageFits 240 image → decodeIdentity image = some image[1])
      ∧ (ImageFits 241 image → ∃ boundary, decodeProtection image = some boundary
        ∧ (image[1].toNat = 255 → boundary = none)
        ∧ (image[1].toNat ≠ 255 → ∃ g : Segment, boundary = some g ∧ g.val = image[1].toNat))
      ∧ (ImageFits 242 image → ∃ code, decodeAccessCode image = some code ∧ ∀ k, k < 8 → code[k]? = image[k + 1]?)
      ∧ (ProfileImageFits image → ∃ f, decodeProfile image = some f ∧ f.Reads image ∧ f.Legal))
  ∧ ∀ (s : State) (ingress : Port) (source : Byte) (st : Staged),
    Ready s → s.ctrl.flagged = false → s.ctrl.staged = some st →
    let started (w : Work) : StoreController := { s.ctrl with staged := none, running := some ⟨w, s.clock, s.clock, false⟩ }
    (∀ (w : SlotWork) (c : Instr), s.mgmt.level = .open →
      (c = .program ingress source st.target ∧ ∃ image, st.image = some image ∧ w = .program st.target image
          ∧ imageSuits st.target image = true ∧ s.readSlot st.target = .blank)
        ∨ (c = .retire ingress source st.target ∧ w = .retire st.target ∧ st.target.toNat < 240
          ∧ ∃ image, s.readSlot st.target = .written image) →
      boundaryProtects s.ctrl.boundary (segmentOfSlot st.target) = false →
      (s.ctrl.running = none →
        exec c s = storeReplied ingress source 0x11 .ok
          { s with ctrl := { started (.slot w) with openSegment := some (segmentOfSlot st.target) } })
      ∧ (∀ other start since continued, s.ctrl.running = some ⟨.slot other, start, since, continued⟩ → other.target ≠ st.target →
        exec c s = storeReplied ingress source 0x11 .ok
          { s with ctrl := { s.ctrl with staged := none, waiting := some w } }))
    ∧ (s.ctrl.running = none →
      (∀ g, s.mgmt.level = .open → st.target.toNat = g.val → boundaryProtects s.ctrl.boundary g = false →
        exec (.eraseSegment ingress source st.target) s
          = storeReplied ingress source 0x11 .ok { s with ctrl := started (.eraseSegment g) })
      ∧ (s.mgmt.level = .open → s.ctrl.boundary = none →
        exec (.eraseAll ingress source st.target) s
          = storeReplied ingress source 0x11 .ok { s with ctrl := started (.eraseAll st.target 0) })
      ∧ (s.straps.maint = some ingress →
        exec (.wipe ingress source st.target) s
          = storeReplied ingress source 0x11 .ok { s with ctrl := { started (.wipe st.target 0) with boundary := none } })
      ∧ (s.mgmt.level = .open ∨ s.straps.maint = some ingress →
        exec (.blankCheck ingress source st.target) s
          = storeReplied ingress source 0x11 .ok
            { s with ctrl := { started (.blankCheck st.target) with blankResult := .none } }))

/-- An EXECUTE on an OPEN bridge that is refused, whichever row names it, EXECUTE_UNKNOWN_OPERATION among them: STORE_FLAGS with nothing
changed while a flag stands; else the first of the nine checks that fails sets its flag, which is the result, the staged record is
discarded, and what runs or waits goes on (R123, R124, R125, R126, R127, R129). The format check lets an image pass exactly when it is of
the kind its slot holds and every byte that is read has a legal value (R125, R126, R163); a boundary protects its own segment and every higher one, and NONE none
(R127). -/
def Obligations.ExecuteRefusedByFirstFailingCheck : Prop :=
  (∀ (slot : Byte) (image : Image), imageSuits slot image = true ↔ ImageFits slot image)
  ∧ (∀ (boundary : Option Segment) (g : Segment),
    boundaryProtects boundary g = true ↔ ∃ b, boundary = some b ∧ b ≤ g)
  ∧ ∀ (s : State) (ingress : Port) (source operation echo : Byte) (c : Instr),
    Ready s → s.mgmt.level = .open → commandOf c = some (ingress, source, .execute operation echo) →
    let refused (result : Result) (ctrl : StoreController) : Answer :=
      storeReplied ingress source 0x11 result { s with ctrl := { ctrl with staged := none } }
    let access := refused .accessError { s.ctrl with accessError := true }
    (s.ctrl.flagged = true → exec c s = storeReplied ingress source 0x11 .storeFlags s)
    ∧ (s.ctrl.flagged = false → s.ctrl.staged = none → exec c s = access)
    ∧ ∀ st, s.ctrl.flagged = false → s.ctrl.staged = some st →
      (operation = 0 ∨ 6 < operation.toNat → exec c s = access)
      ∧ (echo ≠ st.target → exec c s = access)
      ∧ (operation = 5 → s.straps.maint ≠ some ingress → exec c s = access)
      ∧ (∀ r, s.ctrl.running = some r → r.work.isSlotWork = false ∨ 2 < operation.toNat → exec c s = access)
      ∧ (operation = 1 → st.image = none → exec c s = access)
      ∧ (operation = 3 → 16 ≤ st.target.toNat → exec c s = access)
      ∧ (1 ≤ operation.toNat → operation.toNat ≤ 2 → echo = st.target →
        (∀ r, s.ctrl.running = some r → r.work.isSlotWork = true) →
        (∀ image, operation = 1 → st.image = some image → imageSuits st.target image = false →
          exec c s = refused .formatError { s.ctrl with formatError := true })
        ∧ (operation = 2 → 240 ≤ st.target.toNat →
          exec c s = refused .formatError { s.ctrl with formatError := true })
        ∧ (∀ image, operation = 1 → st.image = some image → imageSuits st.target image = true →
          s.readSlot st.target ≠ .blank → exec c s = access)
        ∧ (operation = 2 → st.target.toNat < 240 → (∀ image, s.readSlot st.target ≠ .written image) → exec c s = access)
        ∧ (∀ w, s.ctrl.runningSlotWork = some w → w.target = st.target →
          (operation = 2 ∧ st.target.toNat < 240) ∨ (operation = 1 ∧ ∃ image, st.image = some image
            ∧ imageSuits st.target image = true) → exec c s = access)
        ∧ (s.ctrl.running = none ∨ (∃ w, s.ctrl.runningSlotWork = some w ∧ w.target ≠ st.target) →
          boundaryProtects s.ctrl.boundary (segmentOfSlot st.target) = true →
          (operation = 2 ∧ st.target.toNat < 240 ∧ ∃ image, s.readSlot st.target = .written image)
            ∨ (operation = 1 ∧ s.readSlot st.target = .blank ∧ ∃ image, st.image = some image
              ∧ imageSuits st.target image = true) →
          exec c s = refused .protectViolation { s.ctrl with protectViolation := true }))
      ∧ (s.ctrl.running = none → echo = st.target →
        (operation = 3 ∧ ∃ g : Segment, st.target.toNat = g.val ∧ boundaryProtects s.ctrl.boundary g = true)
          ∨ (operation = 4 ∧ s.ctrl.boundary ≠ none) →
        exec c s = refused .protectViolation { s.ctrl with protectViolation := true })

/-- ABORT STAGE discards the staged record, sets ACCESS_ERROR in every case, and leaves what runs or waits alone; the next STAGE is then
refused with STORE_FLAGS (R130). -/
def Obligations.AbortStageDiscardsRecord : Prop :=
  ∀ (s : State) (ingress : Port) (source : Byte), ReadyOrMaint s ingress →
    exec (.abortStage ingress source) s = storeReplied ingress source 0x12 .accessError
      { s with ctrl := { s.ctrl with staged := none, accessError := true } }
    ∧ ∀ t, exec (.abortStage ingress source) s = .next t →
      t.ctrl.staged = none ∧ t.ctrl.running = s.ctrl.running ∧ t.ctrl.waiting = s.ctrl.waiting
        ∧ (s.ctrl.waiting = none → t.ctrl.ready = true)
        ∧ ∀ target image, (stageRecord target image t.ctrl).1 = .storeFlags

/-- CLEAR STORE FLAGS clears the three error flags, sets BLANK_RESULT to NONE, returns OK, at either access level, and changes nothing else
(R131). RAISE PROTECTION moves the boundary only to a segment below it: BAD_ARGUMENT for a number that is no segment or not below, an access
error where it would cover work launched, else OK (R127, R146). -/
def Obligations.FlagsClearedAndProtectionRaised : Prop :=
  ∀ (s : State) (ingress : Port) (source : Byte), Ready s →
    exec (.clearStoreFlags ingress source) s = storeReplied ingress source 0x13 .ok
      { s with ctrl := { s.ctrl with
        accessError := false, protectViolation := false, formatError := false, blankResult := .none } }
    ∧ (∀ n : Byte, 16 ≤ n.toNat →
      exec (.raiseProtection ingress source n) s = storeReplied ingress source 0x14 .badArgument s)
    ∧ ∀ (n : Byte) (g : Segment), n.toNat = g.val →
      (∀ b, s.ctrl.boundary = some b → b ≤ g →
        exec (.raiseProtection ingress source n) s = storeReplied ingress source 0x14 .badArgument s)
      ∧ ((∀ b, s.ctrl.boundary = some b → g < b) →
        let covered : Prop :=
          (∃ r h, s.ctrl.running = some r ∧ r.work.segment = some h ∧ g ≤ h)
            ∨ (∃ r, s.ctrl.running = some r ∧ ((∃ x h, r.work = .eraseAll x h) ∨ ∃ x h, r.work = .wipe x h))
            ∨ ∃ w, s.ctrl.waiting = some w ∧ g ≤ w.segment
        (covered → exec (.raiseProtection ingress source n) s
          = storeReplied ingress source 0x14 .accessError { s with ctrl := { s.ctrl with accessError := true } })
        ∧ (¬ covered → exec (.raiseProtection ingress source n) s
          = storeReplied ingress source 0x14 .ok { s with ctrl := { s.ctrl with boundary := some g } }))

/-- UNLOCK: KEY_BARRED at three mismatches, even when OPEN; OK and no comparison when OPEN; the working access code opens a LOCKED bridge; any
other code raises the count and is KEY_MISMATCH (R148). -/
def Obligations.UnlockComparesCode : Prop :=
  ∀ (s : State) (ingress : Port) (source : Byte) (code : AccessCode), Ready s →
    let answer (result : Result) (m : ManagementUnit) : Answer :=
      replied ingress source 0x20 result [m.level.code, BitVec.ofNat 8 m.failed] { s with mgmt := m }
    (3 ≤ s.mgmt.failed → exec (.unlock ingress source code) s = answer .keyBarred s.mgmt)
    ∧ (s.mgmt.failed < 3 → s.mgmt.level = .open → exec (.unlock ingress source code) s = answer .ok s.mgmt)
    ∧ (s.mgmt.failed < 3 → s.mgmt.level = .locked → s.mgmt.code = some code →
      exec (.unlock ingress source code) s = answer .ok { s.mgmt with level := .open })
    ∧ (s.mgmt.failed < 3 → s.mgmt.level = .locked → s.mgmt.code ≠ some code →
      exec (.unlock ingress source code) s = answer .keyMismatch { s.mgmt with failed := s.mgmt.failed + 1 })

/-- RESTART on an OPEN bridge sets the restart mark and replies OK. Its reset takes effect exactly while the mark is set, the Reply Buffer is
EMPTY and the Store Controller is DONE; it records cause RESTART and leaves every slot and mark of the store as it is (R158, R159). That
the row leaves the bridge held in reset, for the start-up that R142 lets follow at once to be a step of its own, is the model's choice:
log entry 13. -/
def Obligations.RestartWaitsForReplyAndStore : Prop :=
  (∀ (s : State) (ingress : Port) (source : Byte), Ready s → s.mgmt.level = .open →
    exec (.restart ingress source) s
      = replied ingress source 0x2F .ok [] { s with mgmt := { s.mgmt with restartMark := true } })
    ∧ ∀ s : State, s.phase = .started →
      let due := s.mgmt.restartMark = true ∧ s.mgmt.reply = none ∧ s.ctrl.running = none ∧ s.ctrl.waiting = none
      (due → ∃ t, exec .restartReset s = .next t ∧ t.phase = .inReset ∧ t.store = s.store ∧ t.record.cause = .restart
        ∧ t.record.count = (if s.record.count = 255 then 255 else s.record.count + 1))
      ∧ (¬ due → exec .restartReset s = .next s)

/-! ## The Route Store -/

/-- A PROGRAM completes: its slot is WRITTEN with the image and its hit counter is 0. A RETIRE completes: its slot keeps its record and is
RETIRED. With nothing waiting the segment is closed; a waiting operation starts, continuing an open segment or opening its own (R132,
R133, R134). -/
def Obligations.SlotWorkCompletes : Prop :=
  ∀ (s : State) (start since : Nat) (continued : Bool) (w : SlotWork) (c : Instr) (after : Slot), s.phase = .started →
    s.ctrl.running = some ⟨.slot w, start, since, continued⟩ →
    ((∃ slot image, w = .program slot image ∧ c = .programCompletion ∧ after = .written image)
      ∨ ∃ slot image, w = .retire slot ∧ c = .retireCompletion ∧ s.store.slot slot = .written image
        ∧ after = .retired image) →
    ∃ t, exec c s = .next t
      ∧ t = { s with store := t.store, hits := t.hits, ctrl := t.ctrl }
      ∧ t.store.marks = s.store.marks ∧ t.store.slot w.target = after
      ∧ (∀ i, i ≠ w.target → t.store.slot i = s.store.slot i)
      ∧ (∀ k : Fin 240, t.hits[k] = if c = .programCompletion ∧ k.val = w.target.toNat then 0 else s.hits[k])
      ∧ (s.ctrl.waiting = none → t.ctrl = { s.ctrl with running := none, openSegment := none })
      ∧ ∀ v, s.ctrl.waiting = some v →
        t.ctrl = { s.ctrl with
          waiting := none, openSegment := some v.segment
          running := some ⟨.slot v, s.clock, s.clock, decide (s.ctrl.openSegment = some v.segment)⟩ }

/-- An erase completes, of a segment or of the current one of ERASE ALL and WIPE: the 16 slots are BLANK, the mark is written, quarantine is
lifted, the segment's hit counters are 0, and no other segment changes. After segment 15 the operation is over, before it the next segment
begins, its time measured from now, while the operation keeps its own start time (R91, R100, R120, R135, R136). -/
def Obligations.EraseBlanksOneSegment : Prop :=
  ∀ (s : State) (start since : Nat) (continued : Bool) (work : Work) (g : Segment) (c : Instr) (next : Option Running),
    s.phase = .started → s.ctrl.running = some ⟨work, start, since, continued⟩ →
    ((work = .eraseSegment g ∧ c = .eraseSegmentCompletion ∧ next = none)
      ∨ (∃ target, work = .eraseAll target g ∧ c = .segmentEraseStep
        ∧ ((g.val = 15 ∧ next = none)
          ∨ ∃ h : Segment, h.val = g.val + 1 ∧ next = some ⟨.eraseAll target h, start, s.clock, continued⟩))
      ∨ ∃ target, work = .wipe target g ∧ c = .segmentEraseStep
        ∧ ((g.val = 15 ∧ next = none)
          ∨ ∃ h : Segment, h.val = g.val + 1 ∧ next = some ⟨.wipe target h, start, s.clock, continued⟩)) →
    ∃ t, exec c s = .next t
      ∧ t = { s with
        store := t.store, hits := t.hits
        ctrl := { s.ctrl with running := next, quarantined := s.ctrl.quarantined.set g false } }
      ∧ t.store.marks = s.store.marks.set g true
      ∧ (∀ i : Byte, t.store.slot i = if i.toNat / 16 = g.val then .blank else s.store.slot i)
      ∧ ∀ k : Fin 240, t.hits[k] = if k.val / 16 = g.val then 0 else s.hits[k]

/-- A BLANK CHECK completes BLANK exactly when every slot reads BLANK and every mark is present, and BLANK opens the access level whatever the
failed-unlock count; it changes no slot, mark, hit counter or boundary (R137). -/
def Obligations.BlankCheckOpensBlankBridge : Prop :=
  ∀ (s : State) (target : Byte) (start since : Nat) (continued : Bool), s.phase = .started →
    s.ctrl.running = some ⟨.blankCheck target, start, since, continued⟩ →
    let blank := (∀ i : Byte, s.readSlot i = .blank) ∧ ∀ g : Segment, s.store.marks[g] = true
    (blank → exec .blankCheckCompletion s = .next { s with
      ctrl := { s.ctrl with running := none, blankResult := .blank }, mgmt := { s.mgmt with level := .open } })
    ∧ (¬ blank → exec .blankCheckCompletion s = .next { s with
      ctrl := { s.ctrl with running := none, blankResult := .notBlank } })

/-- No step but a WIPE's own changes a slot or a mark inside the protected range of the working boundary (R127). A WIPE sets the boundary to
NONE at its launch, so in a state that meets StoreRight none runs while a segment is protected. -/
def Obligations.ProtectedSegmentsAreKept : Prop :=
  ∀ (s t : State) (b : Segment), StoreRight s → s.ctrl.boundary = some b → step s = .next t →
    ∀ i : Byte, b ≤ segmentOfSlot i →
      t.store.slot i = s.store.slot i ∧ t.store.marks[segmentOfSlot i] = s.store.marks[segmentOfSlot i]

/-- A slot changes its state in one direction: BLANK to WRITTEN, WRITTEN to RETIRED with its record kept, either of BLANK and WRITTEN to
TORN by a reset that interrupts the PROGRAM or RETIRE of that slot, and back to BLANK only with its whole segment and its segment mark (R89, R90, R91). -/
def Obligations.SlotsPassOneWay : Prop :=
  ∀ (s t : State) (i : Byte), StoreRight s → step s = .next t →
    t.store.slot i = s.store.slot i
      ∨ (s.store.slot i = .blank ∧ ∃ image, t.store.slot i = .written image ∧ imageSuits i image = true)
      ∨ (∃ image, s.store.slot i = .written image ∧ t.store.slot i = .retired image)
      ∨ (t.store.slot i = .torn ∧ t.phase = .inReset ∧ (∃ w, s.ctrl.runningSlotWork = some w ∧ w.target = i)
        ∧ (s.store.slot i = .blank ∨ ∃ image, s.store.slot i = .written image))
      ∨ (t.store.marks[segmentOfSlot i] = true ∧ ∀ j, segmentOfSlot j = segmentOfSlot i → t.store.slot j = .blank)

/-! ## Resets and start-up -/

/-- POWER_ON and RESET_PIN reset the bridge whatever it does: the record takes the cause, store work in progress leaves its slot TORN or its
segment without its mark, and every buffer, queue, counter, staged record and flag is given up. Held in reset, the bridge answers to
nothing but another cause and the end of the reset (R87, R138, R142, R143). That its ports are DEAF and HALTED while it is held is the
model's choice (log entry 13), that the slots of a segment whose erase is interrupted keep their own states, none of which is read
before the segment is erased, is the model's choice too (log entry 8), that every other row changes nothing there is deduced (log entry 4). -/
def Obligations.AsynchronousResetTearsWork : Prop :=
  (∀ (s : State) (c : Instr), c = .powerOn ∨ c = .resetPin →
    ∃ t, exec c s = .next t ∧ t.phase = .inReset
      ∧ (c = .powerOn → t.record = ⟨.powerOn, 0⟩)
      ∧ (c = .resetPin → t.record = ⟨.resetPin, if s.record.count = 255 then 255 else s.record.count + 1⟩)
      ∧ (∀ i, (t.buffer i).claim = .free) ∧ t.classQueue = [] ∧ (∀ p, (t.port p).queue = [] ∧ (t.port p).tx = .halted
        ∧ (t.port p).rx = .deaf ∧ ∀ k, t.counter p k = 0) ∧ (∀ k : Fin 240, t.hits[k] = 0)
      ∧ t.ctrl.staged = none ∧ t.ctrl.running = none ∧ t.ctrl.waiting = none ∧ t.ctrl.flagged = false
      ∧ t.mgmt.reply = none ∧ t.mgmt.restartMark = false
      ∧ (s.ctrl.running = none → t.store = s.store)
      ∧ ∀ r, s.ctrl.running = some r → match r.work with
        | .slot w => t.store.slot w.target = .torn ∧ t.store.marks = s.store.marks
          ∧ ∀ i, i ≠ w.target → t.store.slot i = s.store.slot i
        | .eraseSegment g => t.store = { s.store with marks := s.store.marks.set g false }
        | .eraseAll _ g => t.store = { s.store with marks := s.store.marks.set g false }
        | .wipe _ g => t.store = { s.store with marks := s.store.marks.set g false }
        | .blankCheck _ => t.store = s.store)
    ∧ ∀ (s : State) (c : Instr), s.phase = .inReset → c ≠ .powerOn → c ≠ .resetPin → (∀ straps, c ≠ .startUp straps) →
      exec c s = .next s

/-- Start-up: the straps are latched; segments without a mark are QUARANTINED and their configuration slots give the defaults; the management
address, boundary, access code and profiles are taken from the slots that read WRITTEN, else from the defaults; each port is RUNNING or OFF by
its profile; the store and the Reset Record stay, everything else takes its reset value; an open port's line is measured from this moment (R6, R10, R19,
R37, R56, R91, R120, R139, R140, R141, R144, R147). That both its levels are measured until a row tells which it has is the model's choice:
log entry 12. -/
def Obligations.StartUpLoadsSettings : Prop :=
  ∀ (s : State) (straps : Straps), s.phase = .inReset →
    let stored (slot : Byte) : Option Image :=
      if s.store.marks[segmentOfSlot slot] then
        match s.store.slot slot with
        | .written image => some image
        | .blank => none
        | .retired _ => none
        | .torn => none
      else none
    let profile (slot : Byte) : Profile := ((stored slot).bind decodeProfile).getD
      ⟨true, match straps.rate with
        | .rate19200 => .r19200
        | .rate62500 => .r62500, .accept, 8, 100, 800, ⟨false, false, false⟩⟩
    ∃ t, exec (.startUp straps) s = .next t ∧ t.phase = .started ∧ t.straps = straps ∧ t.store = s.store
      ∧ t.record = s.record ∧ t.clock = s.clock ∧ t.pending = s.pending
      ∧ (∀ g : Segment, t.ctrl.quarantined[g] = !s.store.marks[g])
      ∧ t.address = ((stored 240).bind decodeIdentity).getD 253
      ∧ t.ctrl.boundary = ((stored 241).bind decodeProtection).getD none
      ∧ t.mgmt.code = (stored 242).bind decodeAccessCode
      ∧ t.mgmt.level = (if ((stored 242).bind decodeAccessCode).isSome then .locked else .open) ∧ t.mgmt.failed = 0
      ∧ t.mgmt.unit = .idle ∧ t.mgmt.reply = none ∧ t.mgmt.replyPort = none ∧ t.mgmt.restartMark = false
      ∧ t.ctrl.stateCode = 0 ∧ t.ctrl.flagsByte = 3 ∧ t.ctrl.openSegment = none
      ∧ (t.port .a).profile = profile 243 ∧ (t.port .b).profile = profile 244 ∧ (t.port .c).profile = profile 245
      ∧ (∀ p, (t.port p).mode = (if (t.port p).profile.enabled then .running else .off)
        ∧ (t.port p).rx = (if (t.port p).profile.enabled then .search else .deaf)
        ∧ (t.port p).tx = (if (t.port p).profile.enabled then .idle else .halted)
        ∧ (t.port p).queue = [] ∧ (t.port p).breakPending = false ∧ (t.port p).candidate = none ∧ (t.port p).ownStart = false
        ∧ (t.port p).line = (if (t.port p).profile.enabled then ⟨false, some ⟨s.clock, 0⟩, some ⟨s.clock, 0⟩, none, false⟩
          else ⟨false, none, none, none, false⟩)
        ∧ ∀ k, t.counter p k = 0)
      ∧ (∀ i, (t.buffer i).claim = .free) ∧ t.classQueue = [] ∧ ∀ k : Fin 240, t.hits[k] = 0

/-! ## What every step keeps -/

/-- The state after reset meets every condition that every step keeps, and it is what start-up makes of the part as delivered after its first
power-on, with the strap inputs that log entry 7 chooses. -/
def Obligations.ResetStateIsRight : Prop :=
  Right State.reset
    ∧ ∀ s : State, s.store = RouteStore.delivered → s.ctrl.running = none → s.clock = 0 → s.pending = [] →
      execAll [.powerOn, .startUp Straps.assumed] s = .next State.reset

/-- Every step keeps every port in order: a closed port is DEAF and HALTED with an empty queue and no break pending, an open one is neither, a
transmitter rests in WAIT_GAP with work and in IDLE without, a line that the bridge drives is not idle, and the working profile has legal values (R6, R37, R38, R56, R140). -/
def Obligations.StepKeepsPortsRight : Prop :=
  ∀ s t : State, PortsRight s → step s = .next t → PortsRight t

/-- Every step keeps the traffic in order: each buffer is claimed by exactly what holds it, reference counts equal the entries that name it, the
Classification Queue holds exactly the WAITING buffers, a queue holds at most 12 entries and no buffer twice with the entry being sent at
its head, and the Reply Buffer is named exactly while the unit is REPLY_PENDING (R37, R70, R74, R76, R77, R80, R151). -/
def Obligations.StepKeepsTrafficRight : Prop :=
  ∀ s t : State, TrafficRight s → step s = .next t → TrafficRight t

/-- Every step keeps telegrams faithful: what is in reception agrees with its record and check register, waiting and held telegrams are whole, an
attempt's check value is that of the buffer it sends, a failed-attempt count stays below the retry limit (R4, R22, R40, R44, R73, R78). -/
def Obligations.StepKeepsTelegramsFaithful : Prop :=
  ∀ s t : State, TrafficRight s → TelegramsFaithful s → step s = .next t → TelegramsFaithful t

/-- Every step keeps the Route Store in order: the controller is in one of its five states, launched work still meets the checks of its launch,
written slots hold records fit for them, and quarantine agrees with the segment marks (R89, R91, R120, R121, R127, R132, R139). -/
def Obligations.StepKeepsStoreRight : Prop :=
  ∀ s t : State, StoreRight s → step s = .next t → StoreRight t

/-- Every step keeps the failed-unlock count at most 3 and a LOCKED bridge with a code; a started bridge that is OPEN stays OPEN as long as it
stays started (R147). -/
def Obligations.StepKeepsAccessRight : Prop :=
  ∀ s t : State, AccessRight s → step s = .next t →
    AccessRight t ∧ (s.phase = .started → t.phase = .started → s.mgmt.level = .open → t.mgmt.level = .open)
end

