-- ==== Sys2Proof/Laws/State.lean ====
section
/-! SUPPORT. One lemma per field per update of the bridge's state, so that no later proof unfolds a record update. -/

namespace Sys2Proof.Machine

/-! ## Values per port -/

@[simp] theorem PerPort.get_set_same {α : Type} (t : PerPort α) (p : Port) (x : α) : (t.set p x).get p = x := by cases p <;> rfl

@[simp] theorem PerPort.get_set_ne {α : Type} (t : PerPort α) {p q : Port} (x : α) (h : q ≠ p) : (t.set p x).get q = t.get q := by
  cases p <;> cases q <;> first | rfl | exact absurd rfl h

@[simp] theorem PerPort.get_all {α : Type} (x : α) (p : Port) : (PerPort.all x).get p = x := by cases p <;> rfl

@[simp] theorem PerPort.set_get {α : Type} (t : PerPort α) (p : Port) : t.set p (t.get p) = t := by cases p <;> rfl

@[simp] theorem PerPort.set_set {α : Type} (t : PerPort α) (p : Port) (x y : α) : (t.set p x).set p y = t.set p y := by
  cases p <;> rfl

/-- Two tables of values are the same when every port has the same value. -/
theorem PerPort.ext_get {α : Type} {t u : PerPort α} (h : ∀ p, t.get p = u.get p) : t = u := by
  cases t; cases u
  exact PerPort.mk.injEq .. ▸ ⟨h .a, h .b, h .c⟩

/-! ## A port replaced -/

@[simp] theorem State.port_setPort_same (s : State) (p : Port) (x : LinePort) : (s.setPort p x).port p = x :=
  PerPort.get_set_same ..

@[simp] theorem State.port_setPort_ne (s : State) {p q : Port} (x : LinePort) (h : q ≠ p) : (s.setPort p x).port q = s.port q :=
  PerPort.get_set_ne _ _ h

@[simp] theorem State.setPort_port (s : State) (p : Port) : s.setPort p (s.port p) = s := by
  simp [State.setPort, State.port]

@[simp] theorem State.setPort_setPort (s : State) (p : Port) (x y : LinePort) : (s.setPort p x).setPort p y = s.setPort p y := by
  simp [State.setPort]

@[simp] theorem State.setPort_phase (s : State) (p : Port) (x : LinePort) : (s.setPort p x).phase = s.phase := rfl

@[simp] theorem State.setPort_clock (s : State) (p : Port) (x : LinePort) : (s.setPort p x).clock = s.clock := rfl

@[simp] theorem State.setPort_pool (s : State) (p : Port) (x : LinePort) : (s.setPort p x).pool = s.pool := rfl

@[simp] theorem State.setPort_classQueue (s : State) (p : Port) (x : LinePort) : (s.setPort p x).classQueue = s.classQueue := rfl

@[simp] theorem State.setPort_hits (s : State) (p : Port) (x : LinePort) : (s.setPort p x).hits = s.hits := rfl

@[simp] theorem State.setPort_store (s : State) (p : Port) (x : LinePort) : (s.setPort p x).store = s.store := rfl

@[simp] theorem State.setPort_ctrl (s : State) (p : Port) (x : LinePort) : (s.setPort p x).ctrl = s.ctrl := rfl

@[simp] theorem State.setPort_mgmt (s : State) (p : Port) (x : LinePort) : (s.setPort p x).mgmt = s.mgmt := rfl

@[simp] theorem State.setPort_address (s : State) (p : Port) (x : LinePort) : (s.setPort p x).address = s.address := rfl

@[simp] theorem State.setPort_straps (s : State) (p : Port) (x : LinePort) : (s.setPort p x).straps = s.straps := rfl

@[simp] theorem State.setPort_record (s : State) (p : Port) (x : LinePort) : (s.setPort p x).record = s.record := rfl

@[simp] theorem State.setPort_pending (s : State) (p : Port) (x : LinePort) : (s.setPort p x).pending = s.pending := rfl

@[simp] theorem State.setPort_ports (s : State) (p : Port) (x : LinePort) : (s.setPort p x).ports = s.ports.set p x := rfl

@[simp] theorem State.setPort_buffer (s : State) (p : Port) (x : LinePort) (i : Fin Config.poolSize) :
    (s.setPort p x).buffer i = s.buffer i := rfl

/-! ## A counter raised -/

@[simp] theorem State.count_phase (s : State) (p : Port) (c : CounterName) : (s.count p c).phase = s.phase := rfl

@[simp] theorem State.count_clock (s : State) (p : Port) (c : CounterName) : (s.count p c).clock = s.clock := rfl

@[simp] theorem State.count_pool (s : State) (p : Port) (c : CounterName) : (s.count p c).pool = s.pool := rfl

@[simp] theorem State.count_classQueue (s : State) (p : Port) (c : CounterName) : (s.count p c).classQueue = s.classQueue := rfl

@[simp] theorem State.count_hits (s : State) (p : Port) (c : CounterName) : (s.count p c).hits = s.hits := rfl

@[simp] theorem State.count_store (s : State) (p : Port) (c : CounterName) : (s.count p c).store = s.store := rfl

@[simp] theorem State.count_ctrl (s : State) (p : Port) (c : CounterName) : (s.count p c).ctrl = s.ctrl := rfl

@[simp] theorem State.count_mgmt (s : State) (p : Port) (c : CounterName) : (s.count p c).mgmt = s.mgmt := rfl

@[simp] theorem State.count_address (s : State) (p : Port) (c : CounterName) : (s.count p c).address = s.address := rfl

@[simp] theorem State.count_straps (s : State) (p : Port) (c : CounterName) : (s.count p c).straps = s.straps := rfl

@[simp] theorem State.count_record (s : State) (p : Port) (c : CounterName) : (s.count p c).record = s.record := rfl

@[simp] theorem State.count_pending (s : State) (p : Port) (c : CounterName) : (s.count p c).pending = s.pending := rfl

@[simp] theorem State.port_count_same (s : State) (p : Port) (c : CounterName) :
    (s.count p c).port p = { s.port p with counters := (s.port p).counters.raise c } := State.port_setPort_same ..

@[simp] theorem State.port_count_ne (s : State) {p q : Port} (c : CounterName) (h : q ≠ p) : (s.count p c).port q = s.port q :=
  State.port_setPort_ne _ _ h

@[simp] theorem State.count_buffer (s : State) (p : Port) (c : CounterName) (i : Fin Config.poolSize) :
    (s.count p c).buffer i = s.buffer i := rfl

/-! ## A buffer replaced -/

@[simp] theorem State.buffer_setBuffer_same (s : State) (i : Fin Config.poolSize) (b : Buffer) : (s.setBuffer i b).buffer i = b := by
  simp [State.setBuffer, State.buffer]

@[simp] theorem State.buffer_setBuffer_ne (s : State) {i j : Fin Config.poolSize} (b : Buffer) (h : j ≠ i) :
    (s.setBuffer i b).buffer j = s.buffer j := by
  have h' : (i : Nat) ≠ j := fun e => h (Fin.ext e.symm)
  simp [State.setBuffer, State.buffer, Vector.getElem_set_ne, h']

@[simp] theorem State.setBuffer_phase (s : State) (i : Fin Config.poolSize) (b : Buffer) : (s.setBuffer i b).phase = s.phase := rfl

@[simp] theorem State.setBuffer_clock (s : State) (i : Fin Config.poolSize) (b : Buffer) : (s.setBuffer i b).clock = s.clock := rfl

@[simp] theorem State.setBuffer_classQueue (s : State) (i : Fin Config.poolSize) (b : Buffer) : (s.setBuffer i b).classQueue = s.classQueue := rfl

@[simp] theorem State.setBuffer_hits (s : State) (i : Fin Config.poolSize) (b : Buffer) : (s.setBuffer i b).hits = s.hits := rfl

@[simp] theorem State.setBuffer_store (s : State) (i : Fin Config.poolSize) (b : Buffer) : (s.setBuffer i b).store = s.store := rfl

@[simp] theorem State.setBuffer_ctrl (s : State) (i : Fin Config.poolSize) (b : Buffer) : (s.setBuffer i b).ctrl = s.ctrl := rfl

@[simp] theorem State.setBuffer_mgmt (s : State) (i : Fin Config.poolSize) (b : Buffer) : (s.setBuffer i b).mgmt = s.mgmt := rfl

@[simp] theorem State.setBuffer_address (s : State) (i : Fin Config.poolSize) (b : Buffer) : (s.setBuffer i b).address = s.address := rfl

@[simp] theorem State.setBuffer_straps (s : State) (i : Fin Config.poolSize) (b : Buffer) : (s.setBuffer i b).straps = s.straps := rfl

@[simp] theorem State.setBuffer_record (s : State) (i : Fin Config.poolSize) (b : Buffer) : (s.setBuffer i b).record = s.record := rfl

@[simp] theorem State.setBuffer_pending (s : State) (i : Fin Config.poolSize) (b : Buffer) : (s.setBuffer i b).pending = s.pending := rfl

@[simp] theorem State.setBuffer_ports (s : State) (i : Fin Config.poolSize) (b : Buffer) : (s.setBuffer i b).ports = s.ports := rfl

@[simp] theorem State.setBuffer_port (s : State) (i : Fin Config.poolSize) (b : Buffer) (p : Port) :
    (s.setBuffer i b).port p = s.port p := rfl

@[simp] theorem State.freeBuffer_phase (s : State) (i : Fin Config.poolSize) : (s.freeBuffer i).phase = s.phase := rfl

@[simp] theorem State.freeBuffer_clock (s : State) (i : Fin Config.poolSize) : (s.freeBuffer i).clock = s.clock := rfl

@[simp] theorem State.freeBuffer_classQueue (s : State) (i : Fin Config.poolSize) : (s.freeBuffer i).classQueue = s.classQueue := rfl

@[simp] theorem State.freeBuffer_hits (s : State) (i : Fin Config.poolSize) : (s.freeBuffer i).hits = s.hits := rfl

@[simp] theorem State.freeBuffer_store (s : State) (i : Fin Config.poolSize) : (s.freeBuffer i).store = s.store := rfl

@[simp] theorem State.freeBuffer_ctrl (s : State) (i : Fin Config.poolSize) : (s.freeBuffer i).ctrl = s.ctrl := rfl

@[simp] theorem State.freeBuffer_mgmt (s : State) (i : Fin Config.poolSize) : (s.freeBuffer i).mgmt = s.mgmt := rfl

@[simp] theorem State.freeBuffer_address (s : State) (i : Fin Config.poolSize) : (s.freeBuffer i).address = s.address := rfl

@[simp] theorem State.freeBuffer_straps (s : State) (i : Fin Config.poolSize) : (s.freeBuffer i).straps = s.straps := rfl

@[simp] theorem State.freeBuffer_record (s : State) (i : Fin Config.poolSize) : (s.freeBuffer i).record = s.record := rfl

@[simp] theorem State.freeBuffer_pending (s : State) (i : Fin Config.poolSize) : (s.freeBuffer i).pending = s.pending := rfl

@[simp] theorem State.freeBuffer_ports (s : State) (i : Fin Config.poolSize) : (s.freeBuffer i).ports = s.ports := rfl

@[simp] theorem State.freeBuffer_port (s : State) (i : Fin Config.poolSize) (p : Port) : (s.freeBuffer i).port p = s.port p := rfl

@[simp] theorem State.buffer_freeBuffer_same (s : State) (i : Fin Config.poolSize) :
    (s.freeBuffer i).buffer i = { s.buffer i with claim := .free } := State.buffer_setBuffer_same ..

@[simp] theorem State.buffer_freeBuffer_ne (s : State) {i j : Fin Config.poolSize} (h : j ≠ i) :
    (s.freeBuffer i).buffer j = s.buffer j := State.buffer_setBuffer_ne _ _ h

/-! ## Gates -/

@[simp] theorem ifStarted_started {f : State → State} {s : State} (h : s.phase = .started) : ifStarted f s = f s := by
  simp [ifStarted, h]

@[simp] theorem ifStarted_inReset {f : State → State} {s : State} (h : s.phase = .inReset) : ifStarted f s = s := by
  simp [ifStarted, h]

@[simp] theorem whenStarted_started {f : State → State} {s : State} (h : s.phase = .started) : whenStarted f s = .next (f s) := by
  simp [whenStarted, h]

@[simp] theorem whenStarted_inReset {f : State → State} {s : State} (h : s.phase = .inReset) : whenStarted f s = .next s := by
  simp [whenStarted, h]

@[simp] theorem onOpenPort_open {p : Port} {f : State → State} {s : State} (h : (s.port p).mode.isOpen = true) :
    onOpenPort p f s = f s := by
  simp [onOpenPort, h]

@[simp] theorem onOpenPort_closed {p : Port} {f : State → State} {s : State} (h : (s.port p).mode.isOpen = false) :
    onOpenPort p f s = s := by
  simp [onOpenPort, h]

@[simp] theorem onLivePort_live {p : Port} {f : State → State} {s : State} (h : s.phase = .started)
    (k : (s.port p).mode.isOpen = true) : onLivePort p f s = f s := by
  simp [onLivePort, h, k]

@[simp] theorem onLivePort_inReset {p : Port} {f : State → State} {s : State} (h : s.phase = .inReset) :
    onLivePort p f s = s := by
  simp [onLivePort, h]

@[simp] theorem onLivePort_closed {p : Port} {f : State → State} {s : State} (h : (s.port p).mode.isOpen = false) :
    onLivePort p f s = s := by
  cases k : s.phase <;> simp [onLivePort, h, k]

/-! ## The line's measurements -/

@[simp] theorem LineView.fresh_fields (now : Nat) :
    (LineView.fresh now).idle = false ∧ (LineView.fresh now).rest = some ⟨now, 0⟩ ∧ (LineView.fresh now).run = some ⟨now, 0⟩
      ∧ (LineView.fresh now).search = none ∧ (LineView.fresh now).stuck = false := ⟨rfl, rfl, rfl, rfl, rfl⟩

@[simp] theorem LineView.unmeasured_fields :
    LineView.unmeasured.idle = false ∧ LineView.unmeasured.rest = none ∧ LineView.unmeasured.run = none
      ∧ LineView.unmeasured.search = none ∧ LineView.unmeasured.stuck = false := ⟨rfl, rfl, rfl, rfl, rfl⟩

@[simp] theorem LineView.recessiveFor_fields (now n : Nat) :
    (LineView.recessiveFor now n).idle = false ∧ (LineView.recessiveFor now n).rest = some ⟨now, n⟩
      ∧ (LineView.recessiveFor now n).run = none ∧ (LineView.recessiveFor now n).search = some ⟨now, n⟩
      ∧ (LineView.recessiveFor now n).stuck = false := ⟨rfl, rfl, rfl, rfl, rfl⟩

@[simp] theorem LineView.dominantFor_fields (now n : Nat) :
    (LineView.dominantFor now n).idle = false ∧ (LineView.dominantFor now n).rest = none
      ∧ (LineView.dominantFor now n).run = some ⟨now, n⟩ ∧ (LineView.dominantFor now n).search = none
      ∧ (LineView.dominantFor now n).stuck = false := ⟨rfl, rfl, rfl, rfl, rfl⟩

/-- Eight samples are one bit time: a second has 192000000 ticks (R1, R14). -/
theorem BitRate.sampleTicks_hertz (r : BitRate) : r.sampleTicks * (8 * r.hertz) = 192000000 := by cases r <;> rfl

/-! ## Counters -/

/-- A counter just raised, and every other one of the port. -/
theorem Counters.read_raise (v : Counters) (c d : CounterName) :
    (v.raise c).read d = if d = c then countUp (v.read c) else v.read d := by
  cases c <;> cases d <;> simp [Counters.raise, Counters.read, CounterName.place]

/-- Counting never lowers a counter (R84, R100). -/
theorem le_countUp (n : Count) : n ≤ countUp n := by
  unfold countUp
  split
  · exact BitVec.le_refl n
  · rename_i h
    have : n.toNat ≠ 4294967295 := fun e => h (BitVec.eq_of_toNat_eq (by simpa using e))
    have := n.isLt
    rw [BitVec.le_def, BitVec.toNat_add]
    simp
    omega

end Sys2Proof.Machine
end

