-- ==== Sys2Proof/Laws/Ops.lean ====
section
/-! SUPPORT. For each shared operation of one port, once, what it leaves alone: a port's operation changes its own port, the pool and the Reply Buffer with its unit state, and nothing else; and when a measurement of the line has reached a length. -/

namespace Sys2Proof.Machine

/-! ## The frame of a port's operation -/

/-- What the frame says, field by field. -/
theorem onlyLine_iff {p : Port} {s t : State} :
    OnlyLine p s t ↔
      (∀ q, q ≠ p → t.port q = s.port q) ∧ t.phase = s.phase ∧ t.clock = s.clock ∧ t.classQueue = s.classQueue
        ∧ t.hits = s.hits ∧ t.store = s.store ∧ t.ctrl = s.ctrl ∧ t.address = s.address ∧ t.straps = s.straps
        ∧ t.record = s.record ∧ t.pending = s.pending ∧ t.mgmt.restartMark = s.mgmt.restartMark
        ∧ t.mgmt.level = s.mgmt.level ∧ t.mgmt.code = s.mgmt.code ∧ t.mgmt.failed = s.mgmt.failed := by
  constructor
  · intro h
    rw [OnlyLine] at h
    refine ⟨fun q hq => ?_, ?_⟩
    · rw [h]; exact PerPort.get_set_ne _ _ hq
    · rw [h]; simp
  · rintro ⟨hp, h⟩
    obtain ⟨_, _, sports, _, _, _, _, _, sm, _, _, _, _⟩ := s
    obtain ⟨_, _, tports, _, _, _, _, _, tm, _, _, _, _⟩ := t
    have hports : tports = sports.set p (tports.get p) := by
      refine PerPort.ext_get fun q => ?_
      by_cases hq : q = p
      · subst hq; simp
      · exact (hp q hq).trans (PerPort.get_set_ne _ _ hq).symm
    cases sm; cases tm
    simp only [OnlyLine, State.port, State.mk.injEq, ManagementUnit.mk.injEq] at h ⊢
    tauto

theorem OnlyLine.refl (p : Port) (s : State) : OnlyLine p s s := by simp [onlyLine_iff]

theorem OnlyLine.trans {p : Port} {s t u : State} (h : OnlyLine p s t) (k : OnlyLine p t u) : OnlyLine p s u := by
  rw [onlyLine_iff] at *
  exact ⟨fun q hq => (k.1 q hq).trans (h.1 q hq), by simp_all⟩

theorem onlyLine_setPort (p : Port) (s : State) (x : LinePort) : OnlyLine p s (s.setPort p x) := by
  rw [onlyLine_iff]
  exact ⟨fun q hq => by simp [hq], by simp⟩

theorem onlyLine_count (p : Port) (s : State) (c : CounterName) : OnlyLine p s (s.count p c) := onlyLine_setPort ..

theorem onlyLine_setBuffer (p : Port) (s : State) (i : Fin Config.poolSize) (b : Buffer) : OnlyLine p s (s.setBuffer i b) := by
  simp [onlyLine_iff]

theorem onlyLine_freeBuffer (p : Port) (s : State) (i : Fin Config.poolSize) : OnlyLine p s (s.freeBuffer i) :=
  onlyLine_setBuffer ..

/-! ## The line's measurements -/

@[simp] theorem LineView.idleFor_fields (now n : Nat) :
    (LineView.idleFor now n).idle = true ∧ (LineView.idleFor now n).rest = some ⟨now, n⟩ ∧ (LineView.idleFor now n).run = none
      ∧ (LineView.idleFor now n).search = some ⟨now, n⟩ ∧ (LineView.idleFor now n).stuck = false := ⟨rfl, rfl, rfl, rfl, rfl⟩

/-- A drive fault touches the recessive measurement alone, and that only where the line is not measured at all. -/
theorem LineView.atDriveFault_fields (line : LineView) (now : Nat) :
    (line.atDriveFault now).idle = line.idle ∧ (line.atDriveFault now).run = line.run
      ∧ (line.atDriveFault now).search = line.search ∧ (line.atDriveFault now).stuck = line.stuck
      ∧ (line.atDriveFault now).rest = if line.rest = none ∧ line.run = none then some ⟨now, 0⟩ else line.rest := by
  obtain ⟨_, rest, run, _, _⟩ := line
  cases rest <;> cases run <;> exact ⟨rfl, rfl, rfl, rfl, rfl⟩

/-- A measurement has reached a number of samples (R18). -/
theorem le_samples_iff (s : State) (p : Port) (n : Nat) (k : Measure) :
    n ≤ k.samples (s.port p).profile.rate s.clock ↔ Reached s p n (some k) := by
  simp only [Measure.samples, Reached, Option.some.injEq, exists_eq_left']
  cases (s.port p).profile.rate <;> simp only [BitRate.sampleTicks, BitRate.hertz] <;> omega

/-- A length that is at least what has been measured reaches a number of samples when the row's own does, or the measurement. -/
theorem le_atLeastMeasured_iff (s : State) (p : Port) (n told : Nat) (m : Option Measure) :
    n ≤ atLeastMeasured (s.port p).profile.rate s.clock told m ↔ n ≤ told ∨ Reached s p n m := by
  cases m with
  | none => simp [atLeastMeasured, Reached]
  | some k => rw [atLeastMeasured, le_max_iff, le_samples_iff]

/-- The same of a length before this moment. -/
theorem le_atLeastMeasured_before_iff (s : State) (p : Port) (n told : Nat) (m : Option Measure) :
    n ≤ atLeastMeasured (s.port p).profile.rate (s.clock - 1) told m ↔ n ≤ told ∨ ReachedBefore s p n m :=
  le_atLeastMeasured_iff { s with clock := s.clock - 1 } p n told m

/-- The idle gap is due on a line known to be recessive, not idle and not driven, once its rest has reached 12 bit times (R6). -/
theorem gapReached_iff (s : State) (p : Port) :
    (s.port p).gapReached s.clock = true ↔
      (s.port p).line.idle = false ∧ (s.port p).tx.driving = false ∧ (s.port p).line.run = none
        ∧ Reached s p 96 (s.port p).line.rest := by
  have h := le_atLeastMeasured_iff s p 96 0 (s.port p).line.rest
  rw [LinePort.gapReached, Bool.and_eq_true, Bool.and_eq_true, Bool.and_eq_true, decide_eq_true_iff, LinePort.restLength,
    Config.idleGapSamples, h]
  simp [and_assoc]

/-- When an idle gap has been missed before a dominant sample (R5, R6). -/
theorem gapMissed_iff (s : State) (p : Port) (told : Nat) : (s.port p).gapMissed s.clock told = true ↔ GapMissed s p told := by
  have h := le_atLeastMeasured_before_iff s p 96 told (s.port p).line.rest
  rw [LinePort.gapMissed, Bool.and_eq_true, Bool.and_eq_true, decide_eq_true_iff, LinePort.restLength, Config.idleGapSamples]
  cases hr : (s.port p).line.run with
  | none => simp [GapMissed, hr, h, and_assoc]
  | some _ => simp [GapMissed, hr, and_assoc]

/-- Where none was missed, none is taken (R5). -/
theorem takeMissedGap_none {s : State} {p : Port} {told : Nat} (h : ¬ GapMissed s p told) : takeMissedGap p told s = s := by
  unfold takeMissedGap
  dsimp only
  rw [if_neg]
  rw [Bool.and_eq_true, gapMissed_iff]
  exact fun k => h k.2

/-- Within a character none is taken (R6). -/
theorem takeMissedGap_candidate {s : State} {p : Port} {told : Nat} (h : (s.port p).candidate ≠ none) : takeMissedGap p told s = s := by
  unfold takeMissedGap
  dsimp only
  rw [if_neg]
  rw [Bool.and_eq_true, Option.isNone_iff_eq_none]
  exact fun k => h k.1

/-- Where one was missed and no candidate stands, it is taken (R5, R6). -/
theorem takeMissedGap_some {s : State} {p : Port} {told : Nat} (hc : (s.port p).candidate = none) (hg : GapMissed s p told) :
    takeMissedGap p told s = idleGap p 96 s := by
  unfold takeMissedGap
  dsimp only
  rw [if_pos]
  · rfl
  · rw [Bool.and_eq_true, Option.isNone_iff_eq_none, gapMissed_iff]
    exact ⟨hc, hg⟩

/-- The length of a run that has ended (R10, R18). -/
theorem missedRun_eq {s : State} {p : Port} {r n : Nat} (h : RunEnded s p r n) : (s.port p).missedRun s.clock r = n := by
  obtain ⟨hr, hc, hrest, hst, k, hk, hle, hor, hno⟩ := h
  rw [hk, ← le_samples_iff] at hor hno
  have hcond : ((s.port p).candidate.isNone && (s.port p).line.rest.isNone && !(s.port p).line.stuck && decide (1 ≤ r)) = true := by
    simp [hc, hrest, hst, hr]
  rw [LinePort.missedRun, hk]
  dsimp only
  rw [if_pos hcond]
  rcases hor with h | h <;> omega

/-- A run that a row tells the end of has ended, at that length. -/
theorem runEnded_missedRun {s : State} {p : Port} {r : Nat} (h : 1 ≤ (s.port p).missedRun s.clock r) :
    RunEnded s p r ((s.port p).missedRun s.clock r) := by
  have hm := h
  unfold LinePort.missedRun at h
  split at h
  · next k hk =>
    split at h
    · next hc =>
      simp only [Bool.and_eq_true, Option.isNone_iff_eq_none, Bool.not_eq_true', decide_eq_true_eq] at hc
      obtain ⟨⟨⟨hc, hrest⟩, hst⟩, hr⟩ := hc
      have hval : (s.port p).missedRun s.clock r = max k.taken (k.samples (s.port p).profile.rate s.clock - r) := by
        rw [LinePort.missedRun, hk]
        simp [hc, hrest, hst, hr]
      refine ⟨hr, hc, hrest, hst, k, hk, ?_, ?_, ?_⟩
      · omega
      · rw [hk, ← le_samples_iff]; omega
      · rw [hk, ← le_samples_iff]; omega
    · omega
  · omega

/-- Where no run of 11 or more bit times has ended untold, none is taken (R10). -/
theorem takeMissedRun_none {s : State} {p : Port} {upTo r : Nat} (h : (s.port p).missedRun upTo r < 88) :
    takeMissedRun p upTo r s = s := by
  have c : runClass ((s.port p).missedRun upTo r) = .normalData := if_pos (by omega)
  unfold takeMissedRun
  dsimp only
  rw [c]

/-- One that has is taken as the row of its class would take it (R10, R11). -/
theorem takeMissedRun_some {s : State} {p : Port} {upTo r n : Nat} (h : (s.port p).missedRun upTo r = n) :
    (88 ≤ n → n < 512 → takeMissedRun p upTo r s = breakEnds p s)
      ∧ (512 ≤ n → n < 2048 → takeMissedRun p upTo r s = longBreak p s)
      ∧ (2048 ≤ n → takeMissedRun p upTo r s = stuckLine p .blocksFirst n s) := by
  subst h
  refine ⟨fun h1 h2 => ?_, fun h1 h2 => ?_, fun h1 => ?_⟩ <;> unfold takeMissedRun <;> dsimp only
  · rw [show runClass ((s.port p).missedRun upTo r) = .shortBreak from by
      unfold runClass; rw [if_neg (by omega), if_pos (by omega)]]
  · rw [show runClass ((s.port p).missedRun upTo r) = .longBreak from by
      unfold runClass; rw [if_neg (by omega), if_neg (by omega), if_pos (by omega)]]
  · rw [show runClass ((s.port p).missedRun upTo r) = .stuck from by
      unfold runClass; rw [if_neg (by omega), if_neg (by omega), if_neg (by omega)]]

/-- Where nothing comes first, the row is all that happens. -/
theorem afterMissed_nothing {s : State} {p : Port} {recessives rest : Nat} {row : State → State} (hl : Live s p)
    (hg : ¬ GapMissed s p rest) (hr : ∀ n, RunEndedBefore s p recessives n → n < 88) :
    afterMissed p recessives rest row s = row s := by
  have hm : (s.port p).missedRun (s.clock - 1) recessives < 88 := by
    by_contra hn
    exact hn (hr _ (runEnded_missedRun (s := { s with clock := s.clock - 1 }) (p := p)
      (show 1 ≤ (s.port p).missedRun (s.clock - 1) recessives by omega)))
  rw [afterMissed, takeMissedRun_none hm, onLivePort_live hl.1 hl.2, takeMissedGap_none hg]

/-- Nothing comes first within a character, and where nothing was missed. -/
theorem afterMissed_nothingFirst {s : State} {p : Port} {row : State → State} (hl : Live s p) (h : NothingFirst s p) :
    afterMissed p 2 0 row s = row s := by
  rcases h with hc | ⟨hg, hr⟩
  · have hm : (s.port p).missedRun (s.clock - 1) 2 = 0 := by
      rw [LinePort.missedRun]
      split
      · simp [Option.isNone_iff_eq_none, hc]
      · rfl
    rw [afterMissed, takeMissedRun_none (by omega), onLivePort_live hl.1 hl.2, takeMissedGap_candidate hc]
  · exact afterMissed_nothing hl hg hr

/-- The stuck line is due on a line known to be dominant, once its run has reached 256 bit times and is not declared (R10). -/
theorem stuckReached_iff (s : State) (p : Port) :
    (s.port p).stuckReached s.clock = true ↔
      (s.port p).line.stuck = false ∧ (s.port p).line.rest = none ∧ Reached s p 2048 (s.port p).line.run := by
  have h := le_atLeastMeasured_iff s p 2048 0 (s.port p).line.run
  have c : ∀ n, runClass n = .stuck ↔ 2048 ≤ n := by
    intro n
    unfold runClass
    split_ifs <;> simp <;> omega
  rw [LinePort.stuckReached, Bool.and_eq_true, Bool.and_eq_true, decide_eq_true_iff, LinePort.runLength, c, h]
  simp [and_assoc]

/-! ## The shared operations -/

theorem onlyLine_release (p : Port) (s : State) (ref : BufferRef) : OnlyLine p s (s.release ref) := by
  unfold State.release
  split
  · split
    · split
      · exact onlyLine_freeBuffer ..
      · exact onlyLine_setBuffer ..
    all_goals exact OnlyLine.refl ..
  · rw [onlyLine_iff]
    exact ⟨fun _ _ => rfl, by simp⟩

theorem onlyLine_beginSending (p : Port) (s : State) : OnlyLine p s (beginSending p s) := by
  unfold beginSending
  dsimp only
  split
  · exact onlyLine_setPort ..
  · split
    · exact OnlyLine.refl ..
    · exact onlyLine_setPort ..

theorem onlyLine_workAppears (p : Port) (s : State) : OnlyLine p s (workAppears p s) := by
  unfold workAppears
  split
  · split
    · exact onlyLine_beginSending ..
    · exact onlyLine_setPort ..
  all_goals exact OnlyLine.refl ..

theorem onlyLine_restTransmitter (p : Port) (s : State) : OnlyLine p s (restTransmitter p s) := onlyLine_setPort ..

theorem onlyLine_removeHead (p : Port) (s : State) : OnlyLine p s (removeHead p s) := by
  unfold removeHead
  split
  · exact OnlyLine.refl ..
  · exact (onlyLine_setPort ..).trans (onlyLine_release ..)

theorem onlyLine_clearOwnMark (p : Port) (s : State) : OnlyLine p s (clearOwnMark p s) := by
  unfold clearOwnMark
  split
  · exact onlyLine_setPort ..
  all_goals exact OnlyLine.refl ..

theorem onlyLine_echoVerdict (p : Port) (counted : Option CounterName) (s : State) : OnlyLine p s (echoVerdict p counted s) := by
  unfold echoVerdict
  split
  · split
    · refine OnlyLine.trans ?_ (onlyLine_restTransmitter ..)
      refine OnlyLine.trans ?_ (onlyLine_removeHead ..)
      split
      · exact onlyLine_count ..
      · exact OnlyLine.refl ..
    · exact OnlyLine.refl ..
  · exact OnlyLine.refl ..

theorem onlyLine_removeStale (p : Port) (s : State) : OnlyLine p s (removeStale p s) :=
  (onlyLine_count ..).trans (onlyLine_removeHead ..)

theorem onlyLine_retryHead (p : Port) (s : State) : OnlyLine p s (retryHead p s) := by
  unfold retryHead
  split
  · exact OnlyLine.refl ..
  · dsimp only
    split
    · exact ((onlyLine_setPort ..).trans (onlyLine_count ..)).trans (onlyLine_removeHead ..)
    · exact onlyLine_setPort ..

theorem onlyLine_failAttempt (p : Port) (counted : CounterName) (a : Attempt) (s : State) :
    OnlyLine p s (failAttempt p counted a s) := by
  refine OnlyLine.trans ?_ (onlyLine_restTransmitter ..)
  refine ((onlyLine_count p s counted).trans (onlyLine_clearOwnMark ..)).trans ?_
  split
  · exact onlyLine_removeStale ..
  · exact onlyLine_retryHead ..

theorem onlyLine_dropAttempt (p : Port) (a : Attempt) (s : State) : OnlyLine p s (dropAttempt p a s) := by
  refine OnlyLine.trans ?_ (onlyLine_restTransmitter ..)
  refine (onlyLine_clearOwnMark p s).trans ?_
  split
  · exact onlyLine_removeStale ..
  · exact OnlyLine.refl ..

theorem onlyLine_endUncounted (p : Port) (s : State) : OnlyLine p s (endUncounted p s) := by
  unfold endUncounted
  split
  · split
    · exact OnlyLine.refl ..
    · exact onlyLine_dropAttempt ..
  · split
    · exact OnlyLine.refl ..
    · exact onlyLine_dropAttempt ..
  · exact onlyLine_restTransmitter ..
  all_goals exact OnlyLine.refl ..

theorem onlyLine_abortReception (p : Port) (counted : CounterName) (next : RxState) (s : State) :
    OnlyLine p s (abortReception p counted next s) := by
  unfold abortReception
  split
  · dsimp only
    split
    · exact (((onlyLine_count ..).trans (onlyLine_freeBuffer ..)).trans (onlyLine_setPort ..)).trans (onlyLine_echoVerdict ..)
    · exact ((onlyLine_count ..).trans (onlyLine_freeBuffer ..)).trans (onlyLine_setPort ..)
  all_goals exact OnlyLine.refl ..

theorem onlyLine_flush (p : Port) (s : State) : OnlyLine p s (flush p s) := by
  unfold flush
  generalize (s.port p).queue = q
  suffices h : ∀ t, OnlyLine p t (q.foldl (fun t e => (t.count p .dropPortClosed).release e.ref) t) from
    (onlyLine_setPort ..).trans (h _)
  induction q with
  | nil => exact OnlyLine.refl p
  | cons e rest ih => exact fun t => ((onlyLine_count ..).trans (onlyLine_release ..)).trans (ih _)

theorem onlyLine_closePort (p : Port) (mode : PortMode) (s : State) : OnlyLine p s (closePort p mode s) := by
  unfold closePort
  dsimp only
  refine OnlyLine.trans ?_ (onlyLine_flush ..)
  refine OnlyLine.trans ?_ (onlyLine_setPort ..)
  split
  · exact (onlyLine_count ..).trans (onlyLine_freeBuffer ..)
  all_goals exact OnlyLine.refl ..

theorem onlyLine_openPort (p : Port) (mode : PortMode) (s : State) : OnlyLine p s (openPort p mode s) := onlyLine_setPort ..

theorem onlyLine_takeFault (p : Port) (s : State) : OnlyLine p s (takeFault p s) := by
  unfold takeFault
  split
  · exact (onlyLine_count ..).trans (onlyLine_setPort ..)
  · exact (onlyLine_count ..).trans (onlyLine_closePort ..)
  all_goals exact OnlyLine.refl ..

theorem onlyLine_endProbation (p : Port) (s : State) : OnlyLine p s (endProbation p s) := by
  unfold endProbation
  split
  · exact onlyLine_setPort ..
  all_goals exact OnlyLine.refl ..

theorem onlyLine_gapAtReceiver (p : Port) (s : State) : OnlyLine p s (gapAtReceiver p s) := by
  unfold gapAtReceiver
  split
  · exact onlyLine_abortReception ..
  · exact onlyLine_setPort ..
  all_goals exact OnlyLine.refl ..

theorem onlyLine_gapAtTransmitter (p : Port) (s : State) : OnlyLine p s (gapAtTransmitter p s) := by
  unfold gapAtTransmitter
  split
  · exact onlyLine_beginSending ..
  all_goals exact OnlyLine.refl ..

theorem onlyLine_idleGap (p : Port) (samples : Nat) (s : State) : OnlyLine p s (idleGap p samples s) :=
  ((onlyLine_setPort ..).trans (onlyLine_gapAtReceiver ..)).trans (onlyLine_gapAtTransmitter ..)

theorem onlyLine_takeMissedGap (p : Port) (told : Nat) (s : State) : OnlyLine p s (takeMissedGap p told s) := by
  unfold takeMissedGap
  dsimp only
  split
  · exact onlyLine_idleGap ..
  · exact OnlyLine.refl ..

theorem onlyLine_breakEnds (p : Port) (s : State) : OnlyLine p s (breakEnds p s) := by
  unfold breakEnds
  split
  · exact OnlyLine.refl ..
  · exact (onlyLine_setPort ..).trans (onlyLine_abortReception ..)

theorem onlyLine_normalRunEnds (p : Port) (samples : Nat) (s : State) : OnlyLine p s (normalRunEnds p samples s) := by
  unfold normalRunEnds
  dsimp only
  split
  · exact onlyLine_setPort ..
  · exact OnlyLine.refl ..

theorem onlyLine_onOpenPort {p : Port} {f : State → State} (h : ∀ s, OnlyLine p s (f s)) {s : State} :
    OnlyLine p s (onOpenPort p f s) := by
  unfold onOpenPort
  split
  · exact h s
  · exact OnlyLine.refl p s

theorem onlyLine_stuckToBlocks (p : Port) (s : State) : OnlyLine p s (stuckToBlocks p s) :=
  (onlyLine_abortReception ..).trans (onlyLine_endUncounted ..)

theorem onlyLine_stuckLine (p : Port) (order : StuckOrder) (samples : Nat) (s : State) : OnlyLine p s (stuckLine p order samples s) := by
  unfold stuckLine
  dsimp only
  split
  · exact ((onlyLine_setPort ..).trans (onlyLine_stuckToBlocks ..)).trans (onlyLine_takeFault ..)
  · exact ((onlyLine_setPort ..).trans (onlyLine_takeFault ..)).trans (onlyLine_onOpenPort (onlyLine_stuckToBlocks p))

/-- A run that no row told the end of changes its own port, the pool and the Reply Buffer, or is a line reset request (R11, R34). -/
theorem takeMissedRun_frame (p : Port) (upTo recessives : Nat) (s : State) :
    OnlyLine p s (takeMissedRun p upTo recessives s) ∨ takeMissedRun p upTo recessives s = enterReset (.lineReset p) s := by
  unfold takeMissedRun
  dsimp only
  split
  · exact .inl (OnlyLine.refl ..)
  · exact .inl (onlyLine_breakEnds ..)
  · unfold longBreak
    split
    · exact .inl (OnlyLine.refl ..)
    · split
      · exact .inr rfl
      · exact .inl (onlyLine_breakEnds ..)
  · exact .inl (onlyLine_stuckLine ..)

theorem onlyLine_passOver (p : Port) (recessives : Nat) (s : State) : OnlyLine p s (passOver p recessives s) := onlyLine_setPort ..

theorem onlyLine_candidateStartBit (p : Port) (s : State) : OnlyLine p s (candidateStartBit p s) := onlyLine_setPort ..

theorem onlyLine_falseStart (p : Port) (samples : List Level) (s : State) : OnlyLine p s (falseStart p samples s) := onlyLine_setPort ..

theorem onlyLine_appendEntry (p : Port) (ref : BufferRef) (s : State) : OnlyLine p s (appendEntry p ref s) :=
  (onlyLine_setPort ..).trans (onlyLine_workAppears ..)

theorem onlyLine_placeReply (p : Port) (reply : Telegram) (s : State) : OnlyLine p s (placeReply p reply s) := by
  unfold placeReply
  split
  · refine OnlyLine.trans ?_ (onlyLine_appendEntry ..)
    rw [onlyLine_iff]
    exact ⟨fun _ _ => rfl, by simp⟩
  · exact onlyLine_count ..

end Sys2Proof.Machine
end

