-- ==== Sys2Proof/Tests/Slice0.lean ====
section
/-! SUPPORT. Tests: terms that the checks on operands refuse, the spec's own examples, and for every obligation with hypotheses a state and operands that meet them. -/

namespace Sys2Proof.Tests

open Sys2Proof Sys2Proof.Machine

/-! ## Ill-formed terms (WellFormed.lean) -/

theorem test_samples_of_no_character_refused :
    Instr.wellFormed (.characterReceived .a (.sampled [.dominant, .recessive, .recessive, .recessive]) none) = false := by
  decide +kernel

theorem test_rival_of_same_port_refused :
    Instr.wellFormed (.characterReceived .a (.delivered ⟨true, 1, false, false⟩) (some ⟨.a, ⟨true, 2, false, false⟩⟩)) = false := by
  decide

theorem test_rival_without_mark_refused :
    Instr.wellFormed (.characterReceived .a (.delivered ⟨true, 1, false, false⟩) (some ⟨.b, ⟨false, 2, false, false⟩⟩)) = false := by
  decide

theorem test_rival_with_framing_error_refused :
    Instr.wellFormed (.characterReceived .a (.delivered ⟨true, 1, false, false⟩) (some ⟨.b, ⟨true, 2, false, true⟩⟩)) = false := by
  decide

theorem test_run_of_another_class_refused :
    Instr.wellFormed (.shortBreak .a 87) = false ∧ Instr.wellFormed (.shortBreak .a 512) = false
      ∧ Instr.wellFormed (.longBreak .a 511) = false ∧ Instr.wellFormed (.longBreak .a 2048) = false := by decide

theorem test_samples_past_the_decision_refused :
    Instr.wellFormed (.characterReceived .a (.sampled ((samplesOf (characterLevels true 0x10)).take 86)) none) = true
      ∧ Instr.wellFormed (.characterReceived .a (.sampled ((samplesOf (characterLevels true 0x10)).take 87)) none) = false := by
  decide +kernel

theorem test_short_rest_refused_as_idle_gap :
    Instr.wellFormed (.idleGap ⟨.a, 95⟩) = false ∧ Instr.wellFormed (.idleGap ⟨.a, 96⟩) = true := by decide

theorem test_short_run_refused_as_stuck_line :
    Instr.wellFormed (.stuckLine ⟨.a, 2047⟩ .blocksFirst) = false ∧ Instr.wellFormed (.stuckLine ⟨.a, 2048⟩ .blocksFirst) = true := by decide

theorem test_candidate_after_one_recessive_refused :
    Instr.wellFormed (.candidateStartBit ⟨.a, 1, 0⟩) = false ∧ Instr.wellFormed (.candidateStartBit ⟨.a, 2, 0⟩) = true := by decide

theorem test_rest_longer_than_recessives_refused :
    Instr.wellFormed (.candidateStartBit ⟨.a, 2, 3⟩) = false ∧ Instr.wellFormed (.candidateStartBit ⟨.a, 2, 2⟩) = true := by decide

theorem test_samples_before_the_start_bit_refused :
    ∀ before ∈ [[Level.recessive, .recessive], List.replicate 88 .dominant ++ [.recessive, .recessive]],
      Instr.wellFormed (.characterReceived .a (.sampled (before ++ (samplesOf (characterLevels true 0x10)).take 86)) none) = false := by
  decide +kernel

theorem test_confirmed_start_refused_as_false_start :
    Instr.wellFormed (.falseStart .a .dominant .dominant .recessive) = false := by decide

theorem test_known_payload_refused_as_unknown :
    Instr.wellFormed (.unknownCommand .a 0x11 [0x01]) = false := by decide

theorem test_overlong_payload_refused :
    Instr.wellFormed (.unknownCommand .a 0x11 (List.replicate 32 0xFF)) = false := by decide

theorem test_known_operation_refused : Instr.wellFormed (.executeUnknownOperation .a 0x11 6 0) = false := by decide

theorem test_known_action_refused : Instr.wellFormed (.portControlUnknownAction .a 0x11 0 3) = false := by decide

/-! ## Examples of the spec -/

/-- 01_the_field_line.md, 1.3: the CRC's test sequence, and the shortest telegram. -/
theorem test_check_values :
    crcOf [0x31, 0x32, 0x33, 0x34, 0x35, 0x36, 0x37, 0x38, 0x39] = 0x29B1
      ∧ Telegram.check ⟨0x10, 0x21, 0x00, []⟩ = 0xBA28 := by decide +kernel

/-- 01_the_field_line.md, 1.2: the character with mark bit 1 and data byte 10h. -/
theorem test_character_levels :
    characterLevels true 0x10 = [.dominant, .recessive, .dominant, .dominant, .dominant, .recessive, .dominant, .dominant,
      .dominant, .dominant, .recessive] := by decide

/-- 01_the_field_line.md, 1.5: the bridge's telegram from 11h loses to the one from 05h in the 17th bit time (bit 16 from 0). -/
theorem test_arbitration_example :
    let own : Telegram := ⟨0x20, 0x11, 0x02, [0, 0]⟩
    let other : Telegram := ⟨0x20, 0x05, 0x00, []⟩
    attemptVerdict 0 own.levels (sharedLine true true own.levels other.levels) = some (16, .arbitrationLost) := by decide +kernel

/-- A mark bit that rises half a bit time late: its samples 4 to 6 disagree and the majority decides (R16). -/
theorem test_noisy_character :
    characterOfSamples (.searching 2) ((List.replicate 12 Level.dominant ++ (samplesOf (characterLevels true 0x10)).drop 12).take 86)
      = some ⟨true, 0x10, true, false⟩ := by
  decide +kernel

/-- A dominant sample after a recessive one resynchronises, sample 6 included (R17): the disturbance of chapter 2's first example, two
samples of which would be dominant, garbles the character under the rule (log entry 11). -/
theorem test_edge_at_sample_six_resynchronises :
    ∀ n < 97, characterOfSamples (.searching 2)
        (((samplesOf (characterLevels false 0x21)).set 52 .recessive ++ List.replicate 8 Level.recessive).take n)
      ≠ some ⟨false, 0x21, true, false⟩ := by
  decide +kernel

/-- The image of the example of 11_formats.md, 11.4. -/
def exampleImage : Image :=
  #v[0x01, 0x02, 0x40, 0xF0, 0x00, 0x00, 0x03, 0x88, 0x00, 0x00, 0x14, 0x00, 0x05, 0x04, 0x00, 0x00, 0x00, 0x10]

/-- 11_formats.md, 11.4: the image is entry 2 of 06_the_route_table.md's first example; byte 15 is not read, byte 7 may not be 08h. -/
theorem test_route_image :
    decodeRoute exampleImage = some
        { ingress := ⟨false, true, false⟩, destination := ⟨0x40, 0xF0⟩, source := ⟨0, 0⟩, cls := some 3
          test := some ⟨0, .byte, false, 20, 5, ⟨false, false, false, true⟩, .continue⟩
          forward := ⟨false, false, true⟩, rewrite := none, adjust := none }
      ∧ decodeRoute (exampleImage.set 14 0x77) = decodeRoute exampleImage
      ∧ decodeRoute (exampleImage.set 6 0x08) = none := by decide

/-- 07_classification.md, 7.4: the signed word field at offset 2. -/
theorem test_field_test_example :
    let f : FieldTest := ⟨2, .word, true, -40, 30, ⟨true, false, false, true⟩, .drop⟩
    f.value ⟨0, 0, 4, [0x00, 0x11, 0xFF, 0xC4]⟩ = some (-60) ∧ f.holds ⟨0, 0, 4, [0x00, 0x11, 0xFF, 0xC4]⟩ = true
      ∧ f.holds ⟨0, 0, 4, [0x00, 0x11, 0xFF, 0xF6]⟩ = false ∧ f.value ⟨0, 0, 3, [0x00, 0x11, 0xFF]⟩ = none := by decide

/-- A row of the table of R117: what WRAP and CLAMP write. -/
def overflowRow (width : Width) (signed : Bool) (v amount : Int) (bytes : List Byte) : List (Option (List Byte)) :=
  [Overflow.wrap, .clamp].map fun policy =>
    (adjustTelegram (some (⟨0, width, signed, 0, 0, ⟨true, true, true, true⟩, .drop⟩, ⟨amount, policy⟩))
      (FieldTest.write ⟨0, width, signed, 0, 0, ⟨true, true, true, true⟩, .drop⟩ v ⟨0, 0, bytes.length, bytes⟩)).map
      fun t => t.payload

/-- 07_classification.md, the table behind R117. -/
theorem test_overflow_table :
    overflowRow .byte false 250 10 [0] = [some [0x04], some [0xFF]]
      ∧ overflowRow .byte false 5 (-10) [0] = [some [0xFB], some [0x00]]
      ∧ overflowRow .byte false 10 32767 [0] = [some [0x09], some [0xFF]]
      ∧ overflowRow .byte true 100 50 [0] = [some [0x96], some [0x7F]]
      ∧ overflowRow .byte true (-120) (-20) [0] = [some [0x74], some [0x80]]
      ∧ overflowRow .word false 65000 1000 [0, 0] = [some [0x01, 0xD0], some [0xFF, 0xFF]]
      ∧ overflowRow .word true (-32000) (-1000) [0, 0] = [some [0x7F, 0x18], some [0x80, 0x00]]
      ∧ overflowRow .word true 300 (-500) [0, 0] = [some [0xFF, 0x38], some [0xFF, 0x38]] := by decide +kernel

/-- 09_protection_access_and_start_up.md, 9.4: RAISE PROTECTION from a boundary of 12. -/
theorem test_raise_protection_example :
    let c := { State.reset.ctrl with boundary := some 12 }
    (raiseBoundary 14 c).1 = .badArgument ∧ (raiseBoundary 12 c).1 = .badArgument
      ∧ raiseBoundary 9 c = (.ok, { c with boundary := some 9 }) := by decide

/-! ## Small states -/

/-- A state with its pool, its Classification Queue and port A replaced. -/
def withA (s : State) (x : LinePort) : State := s.setPort .a x

/-- The state after reset with a given mode, receiver and transmitter at port A. -/
def atA (mode : PortMode) (rx : RxState) (tx : TxState) : State :=
  withA State.reset { State.reset.port .a with mode := mode, rx := rx, tx := tx }

/-- A pool without a FREE buffer. -/
def fullPool : Vector Buffer Config.poolSize := Vector.replicate Config.poolSize ⟨.waiting .b, Telegram.empty⟩

/-- A telegram with one payload byte, of class 0. -/
def shortTelegram : Telegram := ⟨0x10, 0x21, 0x01, [0x55]⟩

/-- The record of a telegram of that length after its header. -/
def headerRecord : RxRecord := ⟨0, 1, none, crcOf [0x10], none, false, false, 0⟩

/-- The record before its last character: position 5 of 6. -/
def lastRecord (own : Bool) : RxRecord :=
  ⟨0, 5, some 6, shortTelegram.check, some (checkHighByte shortTelegram.check), false, own, 0⟩

/-- Port A in FILLING with a given record, its buffer holding a given part of the telegram. -/
def fillingA (r : RxRecord) (t : Telegram) : State :=
  (atA .running (.filling r) .idle).setBuffer r.buffer ⟨.filling .a, t⟩

/-- An attempt at the entry that names buffer 1. -/
def attempt (expired completed : Bool) : Attempt := ⟨.pool 1, 1, shortTelegram.check, expired, completed⟩

/-- An entry that names buffer 1. -/
def entry (failed : Nat) : EgressEntry := ⟨.pool 1, 100000, failed⟩

/-- Port A with one egress entry, buffer 1 HELD by it. -/
def sendingA (mode : PortMode) (rx : RxState) (tx : TxState) (failed : Nat) : State :=
  (withA State.reset { State.reset.port .a with mode := mode, rx := rx, tx := tx, queue := [entry failed] }).setBuffer 1
    ⟨.held .b 1, shortTelegram⟩

/-- The state after reset with another Store Controller. -/
def withCtrl (c : StoreController) : State := { State.reset with ctrl := c }

/-- A running operation that began at moment 0. -/
def running (w : Work) : State := withCtrl { State.reset.ctrl with running := some ⟨w, 0, 0, false⟩ }

/-- Port A in SEARCH with a given line, which runs at 19200 bit/s: 1250 ticks to a sample. -/
def lineA (line : LineView) : State := withA State.reset { State.reset.port .a with line := line }

/-- A locked bridge with the access code of all zeros and a given failed-unlock count. -/
def lockedAt (failed : Nat) : State :=
  { State.reset with mgmt := { State.reset.mgmt with level := .locked, code := some (Vector.replicate 8 0), failed := failed } }

/-- The state after reset with buffer 0 WAITING from port B at the head of the queue, and a default action for port B. -/
def waitingB (t : Telegram) (defaultAction : PortSet) : State :=
  ((({ State.reset with classQueue := [0] } : State)).setPort .b
    { State.reset.port .b with profile := { (State.reset.port .b).profile with defaultAction := defaultAction } }).setBuffer 0
      ⟨.waiting .b, t⟩

/-- The same with the image of 11.4's example in slot 2. -/
def waitingWithEntry (t : Telegram) : State :=
  let s := waitingB t PortSet.empty
  { s with store := { s.store with slots := s.store.slots.set 2 (.written exampleImage) } }

/-! ## The machine -/

theorem test_witness_StepTakesFrontCommand :
    ∃ c rest, ({ State.reset with pending := [.powerOn, .classification] } : State).pending = c :: rest := ⟨_, _, rfl⟩

/-! ### The line's measurements (R5, R6, R10, R14, R18) -/

/-- What a port's line is after a row at port A. -/
def lineAfter (c : Instr) (s : State) : Option LineView :=
  match exec c s with
  | .next t => some (t.port .a).line
  | .fault _ => none
  | .refused _ => none

/-- The candidate start bit that stands at port A after some rows. -/
def candidateAfter (rows : List Instr) (s : State) : Option (Option StartBit) :=
  match execAll rows s with
  | .next t => some (t.port .a).candidate
  | .fault _ => none
  | .refused _ => none

/-- A good character is followed by a rest from the end of its stop bit, a framing error by the run of its stop bit: sample 6, with
the data bits before it that are 0, and, from a candidate start bit, the whole character. -/
theorem test_line_after_character :
    lineAfter (.characterReceived .a (.delivered ⟨false, 0x10, false, false⟩) none) State.reset
        = some ⟨false, some ⟨2500, 0⟩, none, some ⟨0, 2⟩, false⟩
      ∧ lineAfter (.characterReceived .a (.delivered ⟨true, 0x11, false, true⟩) none) State.reset
        = some (LineView.dominantFor 0 6)
      ∧ lineAfter (.characterReceived .a (.delivered ⟨true, 0x10, false, true⟩) none) State.reset
        = some (LineView.dominantFor 0 38)
      ∧ lineAfter (.candidateStartBit ⟨.a, 2, 0⟩) State.reset = some (LineView.dominantFor 0 1)
      ∧ lineAfter (.characterReceived .a (.sampled (List.replicate 85 .dominant)) none) (withA State.reset
          { State.reset.port .a with candidate := some ⟨0, false⟩, line := LineView.dominantFor 0 1 })
        = some (LineView.dominantFor 0 86) := by
  decide +kernel

/-- A stop bit of dominant, dominant, recessive (log entry 16): a framing error on a line that rests. -/
theorem test_stop_bit_that_ends_recessive :
    lineAfter (.characterReceived .a
        (.sampled (((samplesOf (characterLevels true 0x10)).take 80) ++ List.replicate 5 .dominant ++ [.recessive])) none)
        (lineA (LineView.recessiveFor 0 2))
      = some ⟨false, some ⟨2500, 0⟩, none, some ⟨0, 1⟩, false⟩ := by
  decide +kernel

/-- The rest goes on with the clock: 95 samples past the end of the stop bit, and 96. -/
theorem test_rest_reaches_idle_gap :
    let s := lineA ⟨false, some ⟨2500, 0⟩, none, some ⟨0, 2⟩, false⟩
    ((s.port .a).restLength (2500 + 96 * 1250 - 1) 0 = 95 ∧ (s.port .a).restLength (2500 + 96 * 1250) 0 = 96)
      ∧ dueEvent { s with clock := 2500 + 96 * 1250 - 1 } = none
      ∧ dueEvent { s with clock := 2500 + 96 * 1250 } = some (.idleGap ⟨.a, 96⟩) := by
  decide +kernel

/-- A telegram in FILLING (R5): a character after a told rest of 95 samples belongs to it, one after 96 does not, whether its candidate
start bit is commanded or the rest is measured; of the 96 samples measured up to a dominant one, that one is none. -/
theorem test_rest_ends_telegram :
    let s := fillingA headerRecord ⟨0x10, 0, 0, []⟩
    let measured (now : Nat) : State :=
      { s.setPort .a { s.port .a with line := LineView.recessiveFor 0 0 } with clock := now }
    let next : Instr := .characterReceived .a (.delivered ⟨false, 0x21, false, false⟩) none
    let outcome (commands : List Instr) (s : State) : Option (Option Nat × Count) :=
      match execAll commands s with
      | .next t => some (match (t.port .a).rx with
        | .filling r => some r.position
        | .search => none
        | .skip => none
        | .deaf => none, t.counter .a .rxBroken)
      | .fault _ => none
      | .refused _ => none
    outcome [.candidateStartBit ⟨.a, 99, 95⟩, next] s = some (some 2, 0)
      ∧ outcome [.candidateStartBit ⟨.a, 100, 96⟩, next] s = some (none, 1)
      ∧ outcome [.candidateStartBit ⟨.a, 2, 0⟩, next] (measured (96 * 1250)) = some (some 2, 0)
      ∧ outcome [.candidateStartBit ⟨.a, 2, 0⟩, next] (measured (96 * 1250 + 1)) = some (none, 1)
      ∧ outcome [next] (measured (96 * 1250)) = some (some 2, 0) ∧ outcome [next] (measured (96 * 1250 + 1)) = some (none, 1) := by
  decide +kernel

/-- A port just opened has seen no recessive sample (R14, R36): however long the level of its line stays untold, a start bit needs two that
a row tells of. -/
theorem test_opening_needs_two_recessive_samples :
    let s : State := { State.reset with clock := 1000000 }
    lineAfter (.candidateStartBit ⟨.a, 1, 1⟩) s = some (LineView.dominantFor 1000000 1)
      ∧ candidateAfter [.candidateStartBit ⟨.a, 1, 1⟩] s = some none
      ∧ candidateAfter [.candidateStartBit ⟨.a, 2, 2⟩] s = some (some ⟨1000000, false⟩)
      ∧ lineAfter (.candidateStartBit ⟨.a, 2, 2⟩) s = some (LineView.dominantFor 1000000 1) := by
  decide +kernel

/-- Start search passes over a dominant sample after one recessive one (R14): of the samples R, D, R after a false start's first and then
D, R, D, no D begins a candidate, and the line stays dominant, on which no idle gap is due. -/
theorem test_dominant_after_one_recessive_begins_nothing :
    let s := lineA (LineView.recessiveFor 0 50)
    let rows : List Instr := [.falseStart .a .recessive .dominant .recessive, .candidateStartBit ⟨.a, 1, 1⟩, .candidateStartBit ⟨.a, 1, 1⟩]
    candidateAfter rows s = some none ∧ candidateAfter (rows ++ [.candidateStartBit ⟨.a, 2, 2⟩]) s = some (some ⟨0, false⟩)
      ∧ (match execAll rows s with
        | .next t => dueEvent { t with clock := 200 * 1250 }
        | .fault _ => none
        | .refused _ => none) = none
      ∧ lineAfter (.candidateStartBit ⟨.a, 0, 0⟩) (lineA (LineView.dominantFor 0 38)) = some (LineView.dominantFor 0 38)
      ∧ lineAfter (.candidateStartBit ⟨.a, 0, 0⟩) (lineA (LineView.fresh 0)) = some (LineView.dominantFor 0 0)
      ∧ lineAfter (.candidateStartBit ⟨.a, 0, 0⟩) s = some (LineView.dominantFor 0 1) := by
  decide +kernel

/-- What a row finds of port A when a false start has ended dominant and the clock has measured a run of the given number of samples before
two recessive ones: the bridge started, the port's state, a telegram still in FILLING, and RX_BROKEN. -/
def afterMissedRun (samples : Nat) (row : Instr) (s : State) : Option (Bool × PortMode × Bool × Count) :=
  match execAll [.falseStart .a .recessive .recessive .dominant] s with
  | .next t =>
    match exec row { t with clock := (samples + 1) * 1250 + 1 } with
    | .next u => some (decide (u.phase = .started), (u.port .a).mode, (u.port .a).rx.buffer.isSome, u.counter .a .rxBroken)
    | .fault _ => none
    | .refused _ => none
  | .fault _ => none
  | .refused _ => none

/-- A run that no row told the end of (R10): at 87 samples the telegram in reception goes on, at 88 it is broken and skipped; a long break
on the maintenance port resets the bridge, and a stuck line isolates a port on probation. -/
theorem test_missed_run_is_classified :
    let s := fillingA headerRecord ⟨0x10, 0, 0, []⟩
    let next : Instr := .candidateStartBit ⟨.a, 2, 2⟩
    ∀ d ∈ [(87, next, s, some (true, PortMode.running, true, (0 : Count))), (88, next, s, some (true, .running, false, 1)),
        (200, next, s, some (true, .running, false, 1)),
        (200, .characterReceived .a (.delivered ⟨false, 0x21, false, false⟩) none, s, some (true, .running, false, 1)),
        (200, .falseStart .a .recessive .recessive .recessive, s, some (true, .running, false, 1)),
        (512, next, { s with straps := ⟨some .a, .rate19200, true⟩ }, some (false, .off, false, 0)),
        (2048, next, s.setPort .a { s.port .a with mode := .recovering }, some (true, .isolated, false, 1))],
      afterMissedRun d.1 d.2.1 d.2.2.1 = d.2.2.2 := by
  decide +kernel

/-- The end of a run of normal data starts the rest (R6), of a framing error's as of one that start search passed over; within a character
it tells nothing. -/
theorem test_normal_run_ends :
    let s := lineA (LineView.dominantFor 0 38)
    let u := s.setPort .a { s.port .a with candidate := some ⟨0, false⟩ }
    lineAfter (.shortBreak .a 40) s = some (LineView.recessiveFor 0 0)
      ∧ lineAfter (.shortBreak .a 40) u = some (LineView.dominantFor 0 38)
      ∧ lineAfter (.shortBreak .a 1) (lineA (LineView.recessiveFor 0 2)) = some (LineView.recessiveFor 0 0)
      ∧ lineAfter (.shortBreak .a 0) (lineA (LineView.recessiveFor 0 2)) = some (LineView.recessiveFor 0 2)
      ∧ lineAfter (.shortBreak .a 40) (lineA (LineView.fresh 0)) = some (LineView.recessiveFor 0 0) := by
  decide +kernel

/-- A false start measures the rest from the first recessive sample after the glitch; one that ends dominant begins a run. -/
theorem test_line_after_false_start :
    lineAfter (.falseStart .a .dominant .recessive .recessive) State.reset = some (LineView.recessiveFor 0 2)
      ∧ lineAfter (.falseStart .a .recessive .dominant .recessive) State.reset = some (LineView.recessiveFor 0 1)
      ∧ lineAfter (.falseStart .a .recessive .recessive .recessive) State.reset = some (LineView.recessiveFor 0 3)
      ∧ lineAfter (.falseStart .a .recessive .recessive .dominant) State.reset = some (LineView.dominantFor 0 1) := by
  decide +kernel

/-- The four durations, one tick before the completion and at it (R132). -/
theorem test_witness_StepOnEmptyQueue :
    ∀ r ∈ [((⟨.slot (.retire 5), 0, 0, false⟩ : Running), 70), (⟨.slot (.program 5 exampleImage), 0, 0, true⟩, 30),
        (⟨.eraseSegment 3, 0, 0, false⟩, 24000), (⟨.eraseAll 0 3, 0, 0, false⟩, 7500), (⟨.wipe 0 15, 0, 0, false⟩, 7500),
        (⟨.blankCheck 0, 0, 0, false⟩, 3000)],
      let before := { withCtrl { State.reset.ctrl with running := some r.1 } with clock := 192 * r.2 - 1 }
      before.pending = [] ∧ before.phase = .started ∧ restartDue before = false ∧ before.classQueue = []
        ∧ r.1.micros = r.2 ∧ before.clock < r.1.since + 192 * r.2 ∧ dueEvent before = none
        ∧ (dueEvent { before with clock := 192 * r.2 }).isSome = true := by
  decide +kernel

/-- Each event of a port's own, one tick before it is due and at it: 800 and 16 bit times, a deadline of an entry being sent and of one
that waits, 96 and 2048 samples. -/
theorem test_witness_StepOnEmptyQueue_ports :
    ∀ d ∈ [(fillingA headerRecord ⟨0x10, 0, 0, []⟩, 800 * 8 * 1250, Instr.telegramTimeLimitExpiry .a),
        (atA .running .search (.breaking 0), 16 * 8 * 1250, .breakEnd .a),
        (sendingA .running .search (.sending (attempt false false)) 0, 100000, .deadlineExpiryDuringAttempt .a),
        (sendingA .running .search .waitGap 0, 100000, .entryDeadlineExpiry .a (.pool 1)),
        (lineA (LineView.recessiveFor 0 0), 96 * 1250, .idleGap ⟨.a, 96⟩),
        (lineA (LineView.dominantFor 0 0), 2048 * 1250, .stuckLine ⟨.a, 2048⟩ .blocksFirst)],
      dueEvent { d.1 with clock := d.2.1 - 1 } = none ∧ dueEvent { d.1 with clock := d.2.1 } = some d.2.2 := by
  decide +kernel

/-- The four resets: the part ends two of them itself. -/
theorem test_witness_StepOnEmptyQueue_resets :
    dueEvent (enterReset .restart State.reset) = some (.startUp Straps.assumed)
      ∧ dueEvent (enterReset (.lineReset .b) State.reset) = some (.startUp Straps.assumed)
      ∧ dueEvent (enterReset .powerOn State.reset) = none ∧ dueEvent (enterReset .resetPin State.reset) = none
      ∧ (enterReset .restart State.reset).phase = .inReset := by
  decide +kernel

/-! ## The line -/

theorem test_witness_TelegramOnTheLine : shortTelegram.Whole ∧ (⟨0, 0, 0, []⟩ : Telegram).Whole
    ∧ (⟨0xFF, 0xFF, 0xFF, List.replicate 31 0⟩ : Telegram).Whole := ⟨rfl, rfl, rfl⟩

/-- The destination decides, the source decides, and the neighbours at the ends of both ranges. -/
theorem test_witness_LowerHeaderWinsArbitration :
    word 0x10 0xFF < word 0x11 0x00 ∧ word 0x10 0x05 < word 0x10 0x11 ∧ word 0 0 < word 0 1 ∧ word 0xFF 0xFE < word 0xFF 0xFF := by
  decide

/-! ## Reception -/

/-- Neither an idle gap nor a break comes before a character of a port, as the model computes it. -/
def nothing (s : State) (p : Port) : Bool :=
  !(s.port p).gapMissed s.clock 0 && decide ((s.port p).missedRun (s.clock - 1) 2 < 88)

theorem test_nothingFirst (s : State) (p : Port) (h : nothing s p = true) : NothingFirst s p := by
  rw [nothing, Bool.and_eq_true] at h
  refine .inr ⟨fun k => ?_, fun n hn => ?_⟩
  · rw [(gapMissed_iff s p 0).2 k] at h
    cases h.1
  · rw [← missedRun_eq hn]
    exact of_decide_eq_true h.2

/-- With a candidate start bit standing, and without one, at the last moment at which the rest is of 95 samples and the first at which it
is of 96. -/
theorem test_witness_NothingFirst :
    let s := lineA (LineView.recessiveFor 0 0)
    let u := s.setPort .a { s.port .a with candidate := some ⟨0, false⟩ }
    NothingFirst u .a ∧ NothingFirst { s with clock := 96 * 1250 } .a ∧ GapMissed { s with clock := 96 * 1250 + 1 } .a 0
      ∧ GapMissed s .a 96 ∧ ¬ GapMissed s .a 95 := by
  refine ⟨.inl (by decide), test_nothingFirst _ _ (by decide), (gapMissed_iff ..).1 (by decide), (gapMissed_iff ..).1 (by decide),
    fun h => ?_⟩
  have := (gapMissed_iff ..).2 h
  revert this
  decide

/-- A run of 87 samples before two recessive ones is no break and comes first to nothing; runs at the two ends of each longer class, and no
run declared stuck. -/
theorem test_witness_RunEnded :
    let s := lineA (LineView.dominantFor 0 1)
    let u := s.setPort .a { s.port .a with line := { LineView.dominantFor 0 2048 with stuck := true } }
    NothingFirst { s with clock := 88 * 1250 + 1 } .a
      ∧ (∀ n ∈ [88, 511, 512, 2047, 2048], RunEndedBefore { s with clock := (n + 1) * 1250 + 1 } .a 2 n)
      ∧ (∀ n ∈ [88, 2048], RunEnded { s with clock := (n + 95) * 1250 } .a 96 n)
      ∧ ∀ r n, ¬ RunEnded u .a r n := by
  refine ⟨test_nothingFirst _ _ (by decide), fun n hn => ?_, fun n hn => ?_, fun r n h => ?_⟩
  · have h : (((lineA (LineView.dominantFor 0 1)).port .a).missedRun ((n + 1) * 1250) 2) = n := by
      revert n; decide
    have := runEnded_missedRun (s := { lineA (LineView.dominantFor 0 1) with clock := (n + 1) * 1250 }) (p := .a) (r := 2)
      (by revert n; decide)
    exact (show RunEnded { lineA (LineView.dominantFor 0 1) with clock := (n + 1) * 1250 } .a 2 _ from this) |> fun k => by
      have e : (({ lineA (LineView.dominantFor 0 1) with clock := (n + 1) * 1250 } : State).port .a).missedRun ((n + 1) * 1250) 2 = n := h
      rw [e] at k
      exact k
  · have h : (((lineA (LineView.dominantFor 0 1)).port .a).missedRun ((n + 95) * 1250) 96) = n := by
      revert n; decide
    have k := runEnded_missedRun (s := { lineA (LineView.dominantFor 0 1) with clock := (n + 95) * 1250 }) (p := .a) (r := 96)
      (by revert n; decide)
    have e : (({ lineA (LineView.dominantFor 0 1) with clock := (n + 95) * 1250 } : State).port .a).missedRun ((n + 95) * 1250) 96 = n := h
    rw [e] at k
    exact k
  · exact absurd h.2.2.2.1 (by decide)

/-- From SEARCH with every buffer FREE, from SKIP with only the last one FREE, and with none. -/
theorem test_witness_ReceiverTakesHeader :
    let s := atA .running .search .idle
    let u := (({ atA .recovering .skip .waitGap with pool := fullPool } : State)).setBuffer 31 ⟨.free, Telegram.empty⟩
    let v : State := { atA .running .search .idle with pool := fullPool }
    (Live s .a ∧ (s.port .a).rx = .search ∧ (s.buffer 0).claim = .free)
      ∧ (Live u .a ∧ (u.port .a).rx = .skip ∧ (u.buffer 31).claim = .free ∧ ∀ j, j < 31 → (u.buffer j).claim ≠ .free)
      ∧ (Live v .a ∧ ∀ j, (v.buffer j).claim ≠ .free)
      ∧ Reception.character (s.port .a) 0 (.delivered ⟨true, 0x10, true, false⟩) = some ⟨true, 0x10, true, false⟩
      ∧ (nothing s .a = true ∧ nothing u .a = true ∧ nothing v .a = true)
      ∧ Reception.character ((lineA (LineView.recessiveFor 0 0)).port .a) (2 * 1250 + 1)
          (.sampled ((samplesOf (characterLevels true 0x10)).take 86)) = some ⟨true, 0x10, false, false⟩
      ∧ Reception.character ((lineA (LineView.recessiveFor 0 0)).port .a) (2 * 1250)
          (.sampled ((samplesOf (characterLevels true 0x10)).take 86)) = none
      ∧ Reception.character (s.port .a) 1000000 (.sampled ((samplesOf (characterLevels true 0x10)).take 86)) = none := by
  refine ⟨⟨⟨rfl, rfl⟩, rfl, rfl⟩, ⟨⟨rfl, rfl⟩, rfl, ?_, ?_⟩, ⟨⟨rfl, rfl⟩, ?_⟩, rfl, ?_, ?_, ?_, ?_⟩ <;> decide +kernel

theorem test_witness_StrayCharacterSkips :
    Live (atA .running .search .idle) .a ∧ Live (atA .recovering .skip .idle) .a
      ∧ Reception.character (State.reset.port .a) 0 (.delivered ⟨false, 0x10, false, false⟩) = some ⟨false, 0x10, false, false⟩
      ∧ Reception.character (State.reset.port .a) 0 (.delivered ⟨true, 0x10, false, true⟩) = some ⟨true, 0x10, false, true⟩ :=
  ⟨⟨rfl, rfl⟩, ⟨rfl, rfl⟩, rfl, rfl⟩

/-- Records at position 1, at position 3 of 5 (the check value's first byte comes next), and at position 3 of 6. -/
theorem test_witness_FillingStoresByPosition :
    let first := headerRecord
    let checkNext : RxRecord := ⟨0, 3, some 5, crcOf [0x10, 0x21, 0x00], none, false, false, 0⟩
    let payloadNext : RxRecord := ⟨0, 3, some 6, crcOf [0x10, 0x21, 0x01], none, true, true, 0⟩
    (Live (fillingA first ⟨0x10, 0, 0, []⟩) .a ∧ first.Faithful ((fillingA first ⟨0x10, 0, 0, []⟩).buffer 0).telegram
        ∧ first.expected ≠ some (first.position + 1))
      ∧ (checkNext.Faithful ⟨0x10, 0x21, 0x00, []⟩ ∧ checkNext.expected = some (checkNext.position + 2))
      ∧ (payloadNext.Faithful ⟨0x10, 0x21, 0x01, []⟩ ∧ payloadNext.expected ≠ some (payloadNext.position + 2)) := by
  refine ⟨⟨⟨rfl, rfl⟩, ?_, ?_⟩, ⟨?_, rfl⟩, ?_, ?_⟩
  all_goals first
    | decide
    | (unfold RxRecord.Faithful; decide +kernel)

/-- The last character brings a good check value or a bad one; a noise mark and the policies ACCEPT and DROP. -/
theorem test_witness_OrdinaryTelegramCompletes :
    let s := fillingA (lastRecord false) shortTelegram
    let u := s.setPort .a { s.port .a with profile := { (s.port .a).profile with noise := .drop } }
    (Live s .a ∧ (s.port .a).rx = .filling (lastRecord false) ∧ (lastRecord false).own = false
        ∧ (lastRecord false).Faithful (s.buffer (lastRecord false).buffer).telegram
        ∧ (lastRecord false).expected = some ((lastRecord false).position + 1) ∧ (s.port .a).profile.noise = .accept)
      ∧ (Live u .a ∧ (u.port .a).profile.noise = .drop)
      ∧ shortTelegram.check = checkHighByte shortTelegram.check ++ checkLowByte shortTelegram.check
      ∧ shortTelegram.check ≠ checkHighByte shortTelegram.check ++ (checkLowByte shortTelegram.check + 1) := by
  refine ⟨⟨⟨rfl, rfl⟩, rfl, rfl, ?_, rfl, rfl⟩, ⟨⟨rfl, rfl⟩, rfl⟩, ?_, ?_⟩
  all_goals first
    | decide +kernel
    | (unfold RxRecord.Faithful; decide +kernel)

/-- Before the attempt's completion and after it; the same state for the framing error of FillingIsAbandoned. -/
theorem test_witness_EchoSettlesAttempt :
    ∀ completed : Bool,
      let s := (sendingA .recovering (.filling (lastRecord true)) (.sending (attempt false completed)) 0).setBuffer 0
        ⟨.filling .a, shortTelegram⟩
      (lastRecord true).Faithful (s.buffer (lastRecord true).buffer).telegram ∧ Live s .a ∧ (s.port .a).rx = .filling (lastRecord true) ∧ (lastRecord true).own = true
        ∧ (lastRecord true).expected = some ((lastRecord true).position + 1)
        ∧ (s.port .a).tx.attempt = some (attempt false completed) ∧ (s.port .a).queue = [entry 0] := by
  intro completed
  refine ⟨?_, ⟨rfl, rfl⟩, rfl, rfl, rfl, rfl, rfl⟩
  unfold RxRecord.Faithful
  revert completed
  decide +kernel

/-- The two ends of both classes of breaks, on a port that is the maintenance port without LRE and on one that is not; RUNNING and
RECOVERING. -/
theorem test_witness_FillingIsAbandoned :
    ∀ mode ∈ [PortMode.running, .recovering],
      let s := (atA mode (.filling headerRecord) .idle).setBuffer 0 ⟨.filling .a, ⟨0x10, 0, 0, []⟩⟩
      let u : State := { s with straps := ⟨some .a, .rate19200, false⟩ }
      (s.phase = .started ∧ (s.port .a).mode.isOpen = true) ∧ (s.port .a).rx = .filling headerRecord
        ∧ (s.port .a).mode = mode ∧ (s.port .a).line.stuck = false ∧ (s.port .a).line.rest ≠ none ∧ s.straps.maint ≠ some .a
        ∧ u.straps.maint = some .a ∧ u.straps.lre = false
        ∧ runClass 88 = .shortBreak ∧ runClass 511 = .shortBreak ∧ runClass 512 = .longBreak ∧ runClass 2047 = .longBreak := by
  decide

/-- Another port's header while nothing else is FREE. -/
theorem test_witness_MarkOutOfPlaceRestarts :
    let s := (({ fillingA headerRecord ⟨0x10, 0, 0, []⟩ with pool := fullPool } : State)).setBuffer 0
      ⟨.filling .a, ⟨0x10, 0, 0, []⟩⟩
    Live s .a ∧ (s.port .a).rx = .filling headerRecord ∧ Live s .b ∧ (s.port .b).rx = .search
      ∧ headerRecord.own = false ∧ ∀ i, (s.buffer i).claim ≠ .free := by
  refine ⟨⟨rfl, rfl⟩, rfl, ⟨rfl, rfl⟩, rfl, rfl, ?_⟩
  decide +kernel

/-- The shortest and the longest telegram, into the first and the last buffer. -/
theorem test_witness_TelegramIsReceivedWhole :
    let s := atA .running .search .idle
    let u := (({ atA .recovering .search .waitGap with pool := fullPool } : State)).setBuffer 31 ⟨.free, Telegram.empty⟩
    (Live s .a ∧ (s.port .a).rx = .search ∧ (s.port .a).tx = .idle ∧ (s.buffer 0).claim = .free)
      ∧ (Live u .a ∧ (u.port .a).rx = .search ∧ (u.port .a).tx = .waitGap ∧ (u.buffer 31).claim = .free
        ∧ ∀ j, j < 31 → (u.buffer j).claim ≠ .free)
      ∧ (⟨0x10, 0x21, 0x00, []⟩ : Telegram).Whole ∧ (⟨0x10, 0x21, 0x1F, List.replicate 31 0x55⟩ : Telegram).Whole := by
  refine ⟨⟨⟨rfl, rfl⟩, rfl, rfl, rfl⟩, ⟨⟨rfl, rfl⟩, rfl, rfl, ?_, ?_⟩, rfl, rfl⟩ <;> decide +kernel

/-! ## The line's other events -/

/-- At 96 samples, by the row or as measured; short of it; with and without work, in SKIP, SEARCH and FILLING; and under an attempt. -/
theorem test_witness_IdleGapGrantsLine :
    let s := sendingA .running .skip .waitGap 0
    let u := s.setPort .a { s.port .a with breakPending := true }
    let v := atA .running .search .idle
    let w := sendingA .running (.filling headerRecord) .waitGap 0
    (Live s .a ∧ (s.port .a).rx = .skip ∧ (s.port .a).tx = .waitGap ∧ (s.port .a).breakPending = false
        ∧ (s.port .a).queue = [entry 0])
      ∧ (Live u .a ∧ (u.port .a).tx = .waitGap ∧ (u.port .a).breakPending = true)
      ∧ (Live v .a ∧ (v.port .a).rx = .search ∧ (v.port .a).tx ≠ .waitGap)
      ∧ (Live w .a ∧ (w.port .a).rx = .filling headerRecord ∧ (w.port .a).rx.holdsOwn = false ∧ (w.port .a).tx = .waitGap)
      ∧ ((v.port .a).tx.driving = false ∧ (s.port .a).tx.driving = false
        ∧ ((atA .running .search (.breaking 0)).port .a).tx.driving = true)
      ∧ Reached { v with clock := 96 * 1250 } .a 96 (v.port .a).line.rest
      ∧ ¬ Reached { v with clock := 96 * 1250 - 1 } .a 96 (v.port .a).line.rest := by
  refine ⟨⟨⟨rfl, rfl⟩, rfl, rfl, rfl, rfl⟩, ⟨⟨rfl, rfl⟩, rfl, rfl⟩, ⟨⟨rfl, rfl⟩, rfl, by decide⟩, ⟨⟨rfl, rfl⟩, rfl, rfl, rfl⟩,
    ⟨rfl, rfl, rfl⟩, ⟨_, rfl, by decide⟩, ?_⟩
  rintro ⟨k, hk, h⟩
  cases hk
  revert h
  decide

theorem test_witness_BreaksAtTheReceiver :
    let s := atA .running .skip .idle
    let u : State := { s with straps := ⟨some .a, .rate19200, true⟩ }
    let v : State := { s with straps := ⟨some .a, .rate19200, false⟩ }
    let w := lineA (LineView.dominantFor 0 38)
    (Live s .a ∧ (s.port .a).line.stuck = false ∧ (s.port .a).line.rest ≠ none ∧ (s.port .a).rx = .skip
        ∧ s.straps.maint ≠ some .a)
      ∧ (Live w .a ∧ (w.port .a).candidate = none ∧ (w.port .a).line.rest = none ∧ (w.port .a).line.run ≠ none
        ∧ runClass ((w.port .a).runLength 0 87) = .normalData ∧ runClass ((w.port .a).runLength (50 * 1250) 40) = .shortBreak)
      ∧ (Live u .a ∧ u.straps.maint = some .a ∧ u.straps.lre = true) ∧ (Live v .a ∧ v.straps.lre = false) := by
  refine ⟨⟨⟨rfl, rfl⟩, rfl, ?_, rfl, ?_⟩, ⟨⟨rfl, rfl⟩, rfl, rfl, ?_, ?_, ?_⟩, ⟨⟨rfl, rfl⟩, rfl, rfl⟩, ⟨rfl, rfl⟩, rfl⟩ <;> decide

/-- After the opening, within a character, one and two samples after a break, after a rest of 95 samples and of 96; a run declared
stuck. -/
theorem test_witness_LineMeasurements :
    let s := atA .running .search .idle
    let u := s.setPort .a { s.port .a with line := { LineView.dominantFor 0 2048 with stuck := true } }
    let v := s.setPort .a { s.port .a with candidate := some ⟨0, false⟩ }
    let w := lineA (LineView.recessiveFor 0 0)
    (Live s .a ∧ (s.port .a).candidate = none ∧ (s.port .a).gapReached 1000000 = false
        ∧ (s.port .a).gapMissed 1000000 95 = false ∧ (s.port .a).gapMissed 1000000 96 = true)
      ∧ (Live v .a ∧ (v.port .a).candidate ≠ none)
      ∧ (Live w .a ∧ (w.port .a).searchLength (2 * 1250) 1 = 2 ∧ (w.port .a).searchLength (2 * 1250 - 1) 1 = 1
        ∧ (w.port .a).gapMissed (96 * 1250) 0 = false ∧ (w.port .a).gapMissed (96 * 1250 + 1) 0 = true
        ∧ Reception.character (w.port .a) (96 * 1250 + 1) (.delivered ⟨true, 0x10, false, false⟩) = some ⟨true, 0x10, false, false⟩)
      ∧ Live u .a ∧ (u.port .a).line.stuck = true
      ∧ [Level.recessive, .dominant, .recessive].count .dominant ≤ 1
      ∧ [Level.recessive, .recessive, .recessive].count .dominant ≤ 1 := by
  refine ⟨⟨⟨rfl, rfl⟩, rfl, ?_, ?_, ?_⟩, ⟨⟨rfl, rfl⟩, ?_⟩, ⟨⟨rfl, rfl⟩, ?_⟩, ⟨rfl, rfl⟩, rfl, ?_⟩ <;> decide +kernel

/-- Stuck and not stuck, RUNNING and RECOVERING, in FILLING, SEARCH and SKIP. -/
theorem test_witness_StuckLineIsOneFault :
    ∀ mode ∈ [PortMode.running, .recovering], ∀ rx ∈ [RxState.filling headerRecord, .search, .skip],
      let s := sendingA mode rx (.sending (attempt false false)) 0
      let u := s.setPort .a { s.port .a with line := { LineView.dominantFor 0 2048 with stuck := true } }
      (s.phase = .started ∧ (s.port .a).mode.isOpen = true) ∧ (s.port .a).rx = rx ∧ (s.port .a).mode = mode
        ∧ (s.port .a).line.stuck = false ∧ (u.port .a).line.stuck = true ∧ (u.port .a).mode.isOpen = true
        ∧ (attempt false false).completed = false ∧ (s.port .a).tx.attempt = some (attempt false false)
        ∧ (s.port .a).queue = [entry 0]
        ∧ (s.port .a).runLength (2048 * 1250 - 1) 0 = 2047 ∧ (s.port .a).runLength (2048 * 1250) 0 = 2048 := by
  decide +kernel

/-! ## Transmission -/

/-- Below the retry limit of 8, at it, and expired; in ARBITRATING and in SENDING. -/
theorem test_witness_FailedAttemptIsRetriedOrRemoved :
    ∀ expired : Bool, ∀ failed ∈ [6, 7], ∀ tx ∈ [TxState.arbitrating (attempt expired false), .sending (attempt expired false)],
      let s := sendingA .running (.filling (lastRecord true)) tx failed
      (s.phase = .started ∧ (s.port .a).mode.isOpen = true) ∧ (attempt expired false).completed = false
        ∧ (s.port .a).queue = [entry failed] ∧ (s.port .a).tx = tx
        ∧ (failed = 6 → (entry failed).failed + 1 < (s.port .a).profile.retryLimit)
        ∧ (failed = 7 → (s.port .a).profile.retryLimit ≤ (entry failed).failed + 1) := by
  decide +kernel

/-- An attempt, expired and not, and a break, on a RUNNING and on a RECOVERING port. -/
theorem test_witness_DriveFaultEndsSending :
    ∀ mode ∈ [PortMode.running, .recovering],
      ∀ tx ∈ [TxState.arbitrating (attempt false false), .sending (attempt true false), .breaking 0],
        let s := sendingA mode .search tx 0
        (s.phase = .started ∧ (s.port .a).mode.isOpen = true) ∧ (s.port .a).tx = tx ∧ (s.port .a).tx.driving = true
          ∧ (s.port .a).mode = mode ∧ (s.port .a).queue = [entry 0] := by
  decide +kernel

/-- A driver that fails on an idle line, whose start bit no row told of: the rest is measured again, so the next attempt begins at an idle
gap of its own (log entry 19). -/
theorem test_drive_fault_measures_rest :
    let s := sendingA .running .search .idle 0
    let idle := s.setPort .a { s.port .a with line := LineView.idleFor 0 96 }
    let begun := workAppears .a idle
    (begun.port .a).tx.driving = true ∧ (begun.port .a).line = ⟨false, none, none, some ⟨0, 96⟩, false⟩
      ∧ lineAfter (.driveFault .a) begun = some ⟨false, some ⟨0, 0⟩, none, some ⟨0, 96⟩, false⟩
      ∧ lineAfter (.driveFault .a) (begun.setPort .a { begun.port .a with line := LineView.dominantFor 0 1 })
        = some (LineView.dominantFor 0 1) := by
  decide +kernel

theorem test_witness_AttemptCompletes :
    ∀ own : Bool, ∀ tx ∈ [TxState.sending (attempt false false), .arbitrating (attempt false false)],
      let s := sendingA .recovering (.filling (lastRecord own)) tx 0
      (s.phase = .started ∧ (s.port .a).mode.isOpen = true) ∧ (s.port .a).tx = tx
        ∧ (s.port .a).rx.holdsOwn = own ∧ (s.port .a).queue = [entry 0] := by
  decide +kernel

/-- A break, attempts before and after their completion, and a waiting entry at the head, with nothing being sent and behind a break. -/
theorem test_witness_BreakEndAndDeadlines :
    ∀ tx ∈ [TxState.breaking 0, .arbitrating (attempt false false), .sending (attempt false false), .sending (attempt false true),
        .waitGap],
      let s := sendingA .running .search tx 0
      (s.phase = .started ∧ (s.port .a).mode.isOpen = true) ∧ (s.port .a).tx = tx
        ∧ (s.port .a).queue = [] ++ entry 0 :: [] ∧ (s.port .a).refs.Nodup
        ∧ ((tx = .waitGap ∨ tx = .breaking 0) → (s.port .a).tx.attempt = none) := by
  decide +kernel

/-- A waiting entry behind the one being sent. -/
theorem test_witness_BreakEndAndDeadlines_behind :
    let s := sendingA .running .search (.sending (attempt false false)) 0
    let u := s.setPort .a { s.port .a with queue := [entry 0, ⟨.reply, 100000, 0⟩] }
    Live u .a ∧ (u.port .a).queue = [entry 0] ++ (⟨.reply, 100000, 0⟩ : EgressEntry) :: [] ∧ (u.port .a).refs.Nodup
      ∧ ∀ a, (u.port .a).tx.attempt = some a → a.entry ≠ .reply := by
  refine ⟨⟨rfl, rfl⟩, rfl, by decide, fun a h => ?_⟩
  obtain rfl : attempt false false = a := Option.some.inj h
  decide

/-! ## Port supervision -/

/-- The three faults at a port of each state (a closed one only in states that no run reaches). -/
theorem test_witness_SecondFaultIsolatesPort :
    ∀ mode ∈ [PortMode.running, .recovering, .isolated, .off],
      let s := sendingA mode (.filling headerRecord) (.sending (attempt false false)) 0
      s.phase = .started ∧ (s.port .a).mode = mode ∧ (s.port .a).line.stuck = false
        ∧ (s.port .a).rx = .filling headerRecord ∧ (s.port .a).tx.driving = true := by
  decide

/-- A port of each state named by a command of its own and of another line, the last port byte and the first that names none. -/
theorem test_witness_PortControlMovesNamedPort :
    (∀ mode ∈ [PortMode.running, .recovering, .isolated, .off],
      let s := atA mode .search .idle
      (s.phase = .started ∧ s.mgmt.isReady = true) ∧ s.mgmt.level = .open ∧ (s.port .a).mode = mode)
      ∧ portOf 0 = some .a ∧ portOf 2 = some .c ∧ 3 ≤ (3 : Byte).toNat ∧ Port.a ≠ .b ∧ actionOf 0 = none ∧ actionOf 4 = none := by
  decide

theorem test_witness_SendBreakRequestsOneBreak :
    ∀ mode ∈ [PortMode.running, .isolated], ∀ pending : Bool,
      let x := (atA mode .search .idle).port .a
      let s := withA State.reset { x with breakPending := pending }
      (s.phase = .started ∧ s.mgmt.isReady = true) ∧ s.mgmt.level = .open ∧ portOf 0 = some .a
        ∧ (s.port .a).mode = mode ∧ (s.port .a).breakPending = pending := by
  decide

/-! ## Buffers, queues, counters -/

/-- A command that is no CLEAR COUNTERS on a started bridge that stays started. -/
theorem test_witness_CountersNeverFall :
    ∃ t, exec (.idleGap ⟨.a, 96⟩) State.reset = .next t ∧ State.reset.phase = .started ∧ t.phase = .started
      ∧ commandOf (.idleGap ⟨.a, 96⟩) = none := ⟨_, rfl, rfl, rfl, rfl⟩

/-- A classification, of an ordinary telegram and of a command that is no CLEAR COUNTERS, which stays started. -/
theorem test_witness_CountersNeverFall_classification :
    let s := waitingB shortTelegram PortSet.empty
    let u := waitingB ⟨253, 0x21, 0xE1, [0x01]⟩ PortSet.empty
    (isCommand s (s.buffer 0).telegram = false ∧ ∃ t, exec .classification s = .next t ∧ t.phase = .started)
      ∧ isCommand u (u.buffer 0).telegram = true ∧ u.classQueue = [0]
      ∧ decodePayload ((u.buffer 0).telegram.payload.take (u.buffer 0).telegram.length) = .status := by
  refine ⟨⟨?_, _, rfl, ?_⟩, ?_⟩ <;> decide +kernel

theorem test_witness_CountersAreReadAndCleared :
    Ready State.reset ∧ State.reset.mgmt.level = .open ∧ portOf 2 = some .c ∧ portOf 3 = none
      ∧ (2 : Byte).toNat = (2 : Fin 3).val ∧ 3 ≤ (3 : Byte).toNat := ⟨⟨rfl, rfl⟩, rfl, rfl, rfl, rfl, by decide⟩

/-- The longest data of a reply, 29 bytes. -/
theorem test_witness_ReplyIsPlacedOrDiscarded_fields :
    (List.replicate 29 (0 : Byte)).length ≤ 29 ∧ (replyTelegram 253 0x21 0x03 .ok (List.replicate 29 0)).control = 0xFF := by decide

/-- A closed port, a queue of 12 entries, one of 11, and an empty one behind an idle line. -/
theorem test_witness_ReplyIsPlacedOrDiscarded :
    let queue (n : Nat) : State := withA State.reset { State.reset.port .a with queue := List.replicate n (entry 0) }
    let idle : State := withA State.reset { State.reset.port .a with line := LineView.idleFor 0 96 }
    ((atA .off .deaf .halted).port .a).mode.isOpen = false
      ∧ (((queue 12).port .a).mode.isOpen = true ∧ 12 ≤ ((queue 12).port .a).queue.length)
      ∧ (((queue 11).port .a).mode.isOpen = true ∧ ((queue 11).port .a).queue.length < 12)
      ∧ ((idle.port .a).tx = .idle ∧ (idle.port .a).line.idle = true ∧ (idle.port .a).breakPending = false
        ∧ (idle.port .a).queue = []) := by
  decide

/-- A buffer with one reference and with two, and a port to be closed that names it and the Reply Buffer. -/
theorem test_witness_ReferencesAreReleased :
    ∀ refs ∈ [1, 2],
      let s := (sendingA .running (.filling headerRecord) .idle 0).setBuffer 1 ⟨.held .b refs, shortTelegram⟩
      let u := s.setPort .a { s.port .a with queue := [entry 0, ⟨.reply, 100000, 0⟩] }
      (s.buffer 1).claim = .held .b refs ∧ (u.port .a).mode.isOpen = true ∧ (u.port .a).refs.Nodup
        ∧ BufferRef.pool 1 ∈ (u.port .a).refs ∧ BufferRef.reply ∈ (u.port .a).refs ∧ BufferRef.reply ∉ (s.port .a).refs
        ∧ (u.port .a).rx = .filling headerRecord ∧ (u.port .a).rx.buffer ≠ some 1 := by
  decide

/-! ## Classification -/

/-- Offset and width at the last payload byte that a field reaches and at the first it does not. -/
theorem test_witness_FieldTestIsExact :
    let f : FieldTest := ⟨1, .word, true, -40, 30, ⟨true, false, false, true⟩, .drop⟩
    (⟨0, 0, 2, [0, 0]⟩ : Telegram).length < f.offset + f.width.bytes
      ∧ f.offset + f.width.bytes ≤ (⟨0, 0, 3, [0, 0, 0]⟩ : Telegram).length := by decide

/-- Fields at the ends of their ranges under each policy. -/
theorem test_witness_AdjustmentStaysInField :
    let f : FieldTest := ⟨0, .byte, true, 0, 0, ⟨true, true, true, true⟩, .drop⟩
    let t : Telegram := ⟨0, 0, 1, [0x7F]⟩
    t.Whole ∧ f.offset + f.width.bytes ≤ t.length ∧ f.value t = some 127
      ∧ (fieldRange f.width f.signed).2 < 127 + 1 ∧ 127 + 0 ≤ (fieldRange f.width f.signed).2
      ∧ 127 - 256 < (fieldRange f.width f.signed).1 := ⟨rfl, by decide, by decide, by decide, by decide, by decide⟩

/-- An ordinary telegram decided by a default action, with an open port, a closed port and a full queue in the set, and one decided
by an entry (the telegram t3 of 06_the_route_table.md's first example). -/
theorem test_witness_ClassificationForwards :
    let s := waitingB shortTelegram ⟨true, true, true⟩
    let closed := s.setPort .c { s.port .c with mode := .off, rx := .deaf, tx := .halted }
    let full := s.setPort .a { s.port .a with queue := List.replicate 12 (entry 0) }
    let t3 : Telegram := ⟨0x42, 0x21, 0x61, [27]⟩
    let d : Decision := ⟨⟨true, true, true⟩, none, none, none⟩
    (s.phase = .started ∧ s.classQueue = 0 :: [] ∧ (s.buffer 0).claim = .waiting .b
        ∧ isCommand s (s.buffer 0).telegram = false ∧ scanTable s .b (s.buffer 0).telegram = .undecided false
        ∧ d = ⟨(s.port .b).profile.defaultAction, none, none, none⟩ ∧ (Port.a ≠ .b ∧ d.forward.get .a = true)
        ∧ adjustTelegram d.adjust (rewriteTelegram d.rewrite (s.buffer 0).telegram) = some shortTelegram)
      ∧ ((closed.port .c).mode.isOpen = false ∧ scanTable closed .b shortTelegram = .undecided false)
      ∧ (12 ≤ (full.port .a).queue.length ∧ scanTable full .b shortTelegram = .undecided false)
      ∧ ((s.port .a).tx = .idle ∧ (s.port .a).line.idle = false ∧ (s.port .a).queue = [] ∧ (s.port .a).breakPending = false)
      ∧ (((s.setPort .a { s.port .a with line := LineView.idleFor 0 96 }).port .a).line.idle = true)
      ∧ scanTable (waitingWithEntry t3) .b t3 = .decided ⟨⟨false, false, true⟩, none, none, some 2⟩ := by
  decide +kernel

/-- An empty forward set, and an adjustment that overflows under DROP (the image's byte 14 with the adjustment bit, byte 18 with DROP). -/
theorem test_witness_ClassificationDrops :
    let s := waitingB shortTelegram ⟨false, true, false⟩
    let t3 : Telegram := ⟨0x42, 0x21, 0x61, [27]⟩
    let u := waitingWithEntry t3
    let image := ((exampleImage.set 13 0x14).set 15 0x7F).set 17 0x12
    let v : State := { u with store := { u.store with slots := u.store.slots.set 2 (.written image) } }
    let d : Decision := ⟨⟨false, false, true⟩, none,
      some (⟨0, .byte, false, 20, 5, ⟨false, false, false, true⟩, .continue⟩, ⟨0x7F00, .drop⟩), some 2⟩
    (s.phase = .started ∧ s.classQueue = 0 :: [] ∧ (s.buffer 0).claim = .waiting .b
        ∧ isCommand s (s.buffer 0).telegram = false ∧ scanTable s .b (s.buffer 0).telegram = .undecided false
        ∧ (s.port .b).profile.defaultAction = ⟨false, true, false⟩)
      ∧ (v.classQueue = 0 :: [] ∧ (v.buffer 0).claim = .waiting .b ∧ isCommand v (v.buffer 0).telegram = false
        ∧ scanTable v .b (v.buffer 0).telegram = .decided d
        ∧ adjustTelegram d.adjust (rewriteTelegram d.rewrite (v.buffer 0).telegram) = none) := by
  decide +kernel

/-- The first of two deciding slots, and a scan that passes over a busy segment. -/
theorem test_witness_ScanStopsAtFirstDeciding :
    let t3 : Telegram := ⟨0x42, 0x21, 0x61, [27]⟩
    let s := waitingWithEntry t3
    let twice : State := { s with store := { s.store with slots := s.store.slots.set 16 (.written exampleImage) } }
    let busy : State := { twice with ctrl := { twice.ctrl with running := some ⟨.eraseSegment 0, 0, 0, false⟩ } }
    scanTable twice .b t3 = .decided ⟨⟨false, false, true⟩, none, none, some 2⟩
      ∧ scanTable busy .b t3 = .decided ⟨⟨false, false, true⟩, none, none, some 16⟩
      ∧ scanTable { busy with store := s.store } .b t3 = .undecided true := by
  decide +kernel

/-- A STAGE of 20 bytes as a telegram at the head of the queue, and a payload of no command. -/
theorem test_witness_CommandTelegramActsAsItsRow :
    let c : Instr := .stage .b 0x21 5 (some exampleImage)
    let t : Telegram := ⟨253, 0x21, 0xF4, 0x10 :: 5 :: exampleImage.toList⟩
    let s := waitingB t PortSet.empty
    (c.wellFormed = true ∧ commandOf c = some (.b, t.source, .stage 5 (some exampleImage)) ∧ s.phase = .started
        ∧ s.classQueue = 0 :: [] ∧ s.buffer 0 = ⟨.waiting .b, t⟩ ∧ t.cls = 7 ∧ t.destination = s.address
        ∧ t.payload.length = t.length ∧ payloadOf c = some t.payload)
      ∧ Instr.wellFormed (.unknownCommand .b 0x21 []) = true := by
  decide +kernel

/-! ## Management commands -/

theorem test_witness_CommandFindsUnitBusy :
    let s : State := { State.reset with mgmt := { State.reset.mgmt with restartMark := true } }
    let u : State :=
      { State.reset with mgmt := { State.reset.mgmt with unit := .replyPending, reply := some Telegram.empty, replyPort := some .a } }
    commandOf (.status .a 0x11) = some (.a, 0x11, .status) ∧ s.phase = .started ∧ s.mgmt.restartMark = true
      ∧ u.phase = .started ∧ u.mgmt.unit = .replyPending := ⟨rfl, rfl, rfl, rfl, rfl⟩

/-- A LOCKED bridge with another maintenance port, and EXECUTE of the operations on both sides of the check. -/
theorem test_witness_LockedBridgeRefuses :
    let s : State := { lockedAt 0 with straps := ⟨some .b, .rate19200, false⟩ }
    Ready s ∧ s.mgmt.level = .locked ∧ s.straps.maint ≠ some .a ∧ s.straps.maint = some .b ∧ (4 : Byte) ≠ 5 ∧ (4 : Byte) ≠ 6
      ∧ commandOf (.wipe .a 0x11 0) = some (.a, 0x11, .execute 5 0)
      ∧ commandOf (.eraseAll .b 0x11 0) = some (.b, 0x11, .execute 4 0)
      ∧ commandOf (.unknownCommand .a 0x11 [0x01, 0x00]) = some (.a, 0x11, .bad 0x01) ∧ payloadKnown [0x01, 0x00] = false :=
  ⟨⟨rfl, rfl⟩, rfl, by decide, rfl, by decide, by decide, rfl, rfl, rfl, rfl⟩

theorem test_witness_ReadsChangeNothing :
    Ready State.reset ∧ Ready (lockedAt 3) ∧ payloadKnown [] = false ∧ payloadKnown [0x01, 0x00] = false
      ∧ payloadKnown [0x30] = false := ⟨⟨rfl, rfl⟩, ⟨rfl, rfl⟩, rfl, rfl, rfl⟩

/-- Controllers with a flag, with a staged record, with a waiting operation, and READY; an OPEN bridge and a LOCKED one at the
maintenance port. -/
theorem test_witness_StageLatchesRecord :
    let c := State.reset.ctrl
    let locked : State := { lockedAt 0 with straps := ⟨some .a, .rate19200, false⟩ }
    let waiting : StoreController :=
      { c with running := some ⟨.slot (.retire 1), 0, 0, false⟩, openSegment := some 0, waiting := some (.retire 2) }
    ReadyOrMaint State.reset .a ∧ ReadyOrMaint locked .a ∧ StoreController.flagged { c with formatError := true } = true
      ∧ c.flagged = false ∧ (some (⟨5, none⟩ : Staged)).isSome = true ∧ waiting.flagged = false
      ∧ waiting.waiting.isSome = true ∧ c.staged = none ∧ c.waiting = none :=
  ⟨⟨⟨rfl, rfl⟩, .inl rfl⟩, ⟨⟨rfl, rfl⟩, .inr rfl⟩, rfl, rfl, rfl, rfl, rfl, rfl, rfl⟩

/-- Images that meet the conditions, one for each slot range, and neighbours that do not. -/
theorem test_images_that_fit :
    let config (bytes : List Byte) : Image := Vector.ofFn fun k => bytes.getD k 0
    let profile := config [5, 1, 5, 1, 15, 250, 7, 208, 7]
    imageSuits 239 exampleImage = true ∧ imageSuits 240 exampleImage = false
      ∧ imageSuits 240 (config [2, 254]) = true ∧ imageSuits 240 (config [2, 255]) = false
      ∧ imageSuits 241 (config [3, 15]) = true ∧ imageSuits 241 (config [3, 255]) = true ∧ imageSuits 241 (config [3, 16]) = false
      ∧ imageSuits 242 (config [4]) = true ∧ imageSuits 242 (config [5]) = false
      ∧ imageSuits 243 profile = true ∧ imageSuits 245 profile = true ∧ imageSuits 246 profile = false
      ∧ imageSuits 243 (profile.set 7 209) = false ∧ imageSuits 243 (profile.set 2 6) = false
      ∧ imageSuits 2 (exampleImage.set 9 1) = false ∧ imageSuits 2 ((exampleImage.set 9 0xFF).set 10 0x80) = false
      ∧ imageSuits 2 (((exampleImage.set 9 0xFF).set 10 0x80).set 7 0xA8) = true := by
  decide +kernel

theorem test_witness_image_fits : RouteImageFits exampleImage ∧ ImageFits 2 exampleImage := by
  have h : RouteImageFits exampleImage := by
    unfold RouteImageFits ReferenceFits numberOf
    decide +kernel
  exact ⟨h, .inl ⟨by decide, h⟩⟩

/-- A staged PROGRAM of slot 2 and a staged RETIRE of slot 239, with nothing running and behind another PROGRAM; the last segment
below a boundary; the maintenance port. -/
theorem test_witness_ExecuteLaunchesOperation :
    let c := State.reset.ctrl
    let s := withCtrl { c with staged := some ⟨2, some exampleImage⟩, boundary := some 1 }
    let u : State :=
      { withCtrl { c with staged := some ⟨239, none⟩, running := some ⟨.slot (.program 3 exampleImage), 0, 0, false⟩ } with
        store := { State.reset.store with slots := State.reset.store.slots.set 239 (.written exampleImage) }
        straps := ⟨some .a, .rate19200, false⟩ }
    (Ready s ∧ s.ctrl.flagged = false ∧ s.mgmt.level = .open ∧ imageSuits 2 exampleImage = true ∧ s.readSlot 2 = .blank
        ∧ boundaryProtects s.ctrl.boundary (segmentOfSlot 2) = false ∧ s.ctrl.running = none)
      ∧ (Ready u ∧ u.ctrl.flagged = false ∧ (239 : Byte).toNat < 240 ∧ u.readSlot 239 = .written exampleImage
        ∧ (SlotWork.program 3 exampleImage).target ≠ 239 ∧ u.straps.maint = some .a)
      ∧ ((0 : Byte).toNat = (0 : Segment).val ∧ boundaryProtects (some 1) 0 = false) := by
  refine ⟨⟨⟨rfl, rfl⟩, ?_⟩, ⟨⟨rfl, rfl⟩, ?_⟩, ?_⟩ <;> decide +kernel

/-- Controllers and operands for the nine checks. -/
theorem test_witness_ExecuteRefusedByFirstFailingCheck :
    let c := State.reset.ctrl
    let staged (st : Staged) : State := withCtrl { c with staged := some st }
    let s := staged ⟨2, some exampleImage⟩
    Ready s ∧ s.mgmt.level = .open ∧ s.ctrl.flagged = false ∧ StoreController.flagged { c with accessError := true } = true
      ∧ c.staged = none ∧ s.straps.maint ≠ some .a ∧ 6 < (7 : Byte).toNat ∧ (3 : Byte) ≠ 2
      ∧ (Work.blankCheck 0).isSlotWork = false ∧ (Work.slot (.retire 2)).isSlotWork = true ∧ 16 ≤ (16 : Byte).toNat
      ∧ imageSuits 2 (exampleImage.set 6 0x08) = false ∧ 240 ≤ (240 : Byte).toNat ∧ (239 : Byte).toNat < 240
      ∧ imageSuits 2 exampleImage = true ∧ (waitingWithEntry shortTelegram).readSlot 2 ≠ .blank ∧ s.readSlot 2 = .blank
      ∧ (running (.slot (.retire 2))).ctrl.runningSlotWork = some (.retire 2) ∧ (SlotWork.retire 2).target = 2
      ∧ (SlotWork.retire 2).target ≠ 3
      ∧ boundaryProtects (some 0) (segmentOfSlot 2) = true ∧ boundaryProtects (some 15) 15 = true
      ∧ commandOf (.executeUnknownOperation .a 0x11 7 2) = some (.a, 0x11, .execute 7 2)
      ∧ commandOf (.executeUnknownOperation .a 0x11 0 2) = some (.a, 0x11, .execute 0 2) := by
  refine ⟨⟨rfl, rfl⟩, ?_⟩
  decide +kernel

theorem test_witness_AbortStageDiscardsRecord :
    let s := withCtrl { State.reset.ctrl with staged := some ⟨2, none⟩ }
    ReadyOrMaint s .a ∧ s.ctrl.waiting = none ∧ ∃ t, exec (.abortStage .a 0x11) s = .next t :=
  ⟨⟨⟨rfl, rfl⟩, .inl rfl⟩, rfl, _, rfl⟩

/-- Numbers 15 and 16; below, at and above a boundary; with launched work at the boundary, above it and below it. -/
theorem test_witness_FlagsClearedAndProtectionRaised :
    Ready State.reset ∧ 16 ≤ (16 : Byte).toNat ∧ (15 : Byte).toNat = (15 : Segment).val ∧ (12 : Segment) ≤ 12 ∧ (11 : Segment) < 12
      ∧ (Work.eraseSegment 11).segment = some 11 ∧ (11 : Segment) ≤ 11
      ∧ (Work.eraseSegment 10).segment = some 10 ∧ ¬ (11 : Segment) ≤ 10 := by
  refine ⟨⟨rfl, rfl⟩, ?_⟩
  decide

/-- Two mismatches and three; OPEN, LOCKED with the code and with another. -/
theorem test_witness_UnlockComparesCode :
    Ready (lockedAt 2) ∧ Ready (lockedAt 3) ∧ Ready State.reset ∧ (lockedAt 2).mgmt.failed < 3 ∧ 3 ≤ (lockedAt 3).mgmt.failed
      ∧ (lockedAt 2).mgmt.level = .locked ∧ (lockedAt 2).mgmt.code = some (Vector.replicate 8 0)
      ∧ (lockedAt 2).mgmt.code ≠ some (Vector.replicate 8 1) ∧ State.reset.mgmt.level = .open ∧ State.reset.mgmt.failed < 3 := by
  refine ⟨⟨rfl, rfl⟩, ⟨rfl, rfl⟩, ⟨rfl, rfl⟩, ?_⟩
  decide

theorem test_witness_RestartWaitsForReplyAndStore :
    let s : State := { State.reset with mgmt := { State.reset.mgmt with restartMark := true } }
    Ready State.reset ∧ State.reset.mgmt.level = .open
      ∧ (s.phase = .started ∧ s.mgmt.restartMark = true ∧ s.mgmt.reply = none ∧ s.ctrl.running = none ∧ s.ctrl.waiting = none)
      ∧ State.reset.mgmt.restartMark = false := ⟨⟨rfl, rfl⟩, rfl, ⟨rfl, rfl, rfl, rfl, rfl⟩, rfl⟩

/-! ## The Route Store -/

/-- A PROGRAM with nothing waiting, and a RETIRE with an operation waiting for the same segment. -/
theorem test_witness_SlotWorkCompletes :
    let c := State.reset.ctrl
    let s := running (.slot (.program 2 exampleImage))
    let u : State :=
      { waitingWithEntry shortTelegram with
        ctrl := { c with running := some ⟨.slot (.retire 2), 0, 0, false⟩, openSegment := some 0, waiting := some (.retire 3) } }
    (s.phase = .started ∧ s.ctrl.running = some ⟨.slot (.program 2 exampleImage), 0, 0, false⟩ ∧ s.ctrl.waiting = none)
      ∧ (u.phase = .started ∧ u.ctrl.running = some ⟨.slot (.retire 2), 0, 0, false⟩ ∧ u.store.slot 2 = .written exampleImage
        ∧ u.ctrl.waiting = some (.retire 3)) := by
  decide +kernel

/-- An erase of one segment, and the current segments 14 and 15 of ERASE ALL and WIPE. -/
theorem test_witness_EraseBlanksOneSegment :
    (running (.eraseSegment 15)).ctrl.running = some ⟨.eraseSegment 15, 0, 0, false⟩
      ∧ (running (.eraseAll 0 15)).ctrl.running = some ⟨.eraseAll 0 15, 0, 0, false⟩ ∧ (15 : Segment).val = 15
      ∧ (running (.wipe 0 14)).ctrl.running = some ⟨.wipe 0 14, 0, 0, false⟩ ∧ (15 : Segment).val = (14 : Segment).val + 1
      ∧ (running (.wipe 0 14)).phase = .started := ⟨rfl, rfl, rfl, rfl, rfl, rfl⟩

/-- A blank store, and one with a slot WRITTEN. -/
theorem test_witness_BlankCheckOpensBlankBridge :
    let s := running (.blankCheck 7)
    let u : State := { waitingWithEntry shortTelegram with ctrl := s.ctrl }
    s.phase = .started ∧ s.ctrl.running = some ⟨.blankCheck 7, 0, 0, false⟩ ∧ (∀ i : Byte, s.readSlot i = .blank)
      ∧ (∀ g : Segment, s.store.marks[g] = true) ∧ u.ctrl.running = some ⟨.blankCheck 7, 0, 0, false⟩ ∧ u.readSlot 2 ≠ .blank := by
  decide +kernel

/-! ## Resets -/

/-- An operation of each kind in progress; record counts 254 and 255; a bridge held in reset. -/
theorem test_witness_AsynchronousResetTearsWork :
    (∀ w ∈ [Work.slot (.retire 2), .eraseSegment 15, .eraseAll 0 3, .wipe 0 15, .blankCheck 0],
      (running w).ctrl.running = some ⟨w, 0, 0, false⟩) ∧ (254 : Byte) ≠ 255
      ∧ (enterReset .powerOn State.reset).phase = .inReset := by
  decide

theorem test_witness_StartUpLoadsSettings : (enterReset .resetPin State.reset).phase = .inReset := rfl

theorem test_witness_ResetStateIsRight :
    State.reset.store = RouteStore.delivered ∧ State.reset.ctrl.running = none ∧ State.reset.clock = 0
      ∧ State.reset.pending = [] := ⟨rfl, rfl, rfl, rfl⟩

/-! ## What every step keeps -/

/-- A bridge at work: port A sends buffer 1, HELD from B; B is filling buffer 0; C has the reply in WAIT_GAP and is RECOVERING; buffer 2
is WAITING; a PROGRAM of slot 3 runs, a RETIRE of slot 2 waits; the boundary is 12. -/
def busy : State :=
  { State.reset with
    ports :=
      { a := { State.reset.port .a with tx := .sending (attempt false false), queue := [entry 7] }
        b := { State.reset.port .b with rx := .filling headerRecord }
        c := { State.reset.port .c with mode := .recovering, tx := .waitGap, queue := [⟨.reply, 100000, 0⟩] } }
    pool := ((emptyPool.set 0 ⟨.filling .b, ⟨0x10, 0, 0, []⟩⟩).set 1 ⟨.held .b 1, shortTelegram⟩).set 2
      ⟨.waiting .c, shortTelegram⟩
    classQueue := [2]
    store := { State.reset.store with slots := State.reset.store.slots.set 2 (.written exampleImage) }
    ctrl :=
      { State.reset.ctrl with
        running := some ⟨.slot (.program 3 exampleImage), 0, 0, false⟩, waiting := some (.retire 2), openSegment := some 0
        boundary := some 12 }
    mgmt := { State.reset.mgmt with unit := .replyPending, reply := some shortTelegram, replyPort := some .c } }

theorem test_witness_StepKeepsPortsRight : PortsRight busy := by
  intro p
  cases p <;> refine ⟨?_, ⟨?_, ?_, ?_⟩, ?_⟩ <;>
    first | decide | (unfold LinePort.ModeRight; decide +kernel) | (unfold Profile.Legal; decide +kernel)

theorem test_busy_buffersRight : BuffersRight busy := by
  refine ⟨by decide +kernel, fun i => ?_⟩
  have h : (busy.buffer i).claim
      = if i = 0 then .filling .b else if i = 1 then .held .b 1 else if i = 2 then .waiting .c else .free := by
    revert i; decide +kernel
  rw [h]
  split
  · subst_vars
    exact ⟨by decide +kernel, by decide +kernel, fun p => by cases p <;> decide +kernel⟩
  split
  · subst_vars
    exact ⟨by decide +kernel, by decide +kernel, by decide, by decide, by decide +kernel, fun p => by cases p <;> decide +kernel⟩
  split
  · subst_vars
    exact ⟨by decide +kernel, by decide +kernel, fun p => by cases p <;> decide +kernel⟩
  · refine ⟨?_, ?_, fun p => ?_⟩
    · revert i; decide +kernel
    · revert i; decide +kernel
    · cases p <;> (revert i; decide +kernel)

theorem test_busy_queuesRight : QueuesRight busy := by
  intro p
  cases p <;> exact ⟨by decide, by decide, by decide⟩

theorem test_witness_StepKeepsTrafficRight : TrafficRight busy :=
  ⟨test_witness_StepKeepsPortsRight, test_busy_buffersRight, test_busy_queuesRight, ⟨rfl, by decide +kernel, List.mem_singleton.2 rfl⟩⟩

theorem test_witness_StepKeepsTelegramsFaithful : TelegramsFaithful busy := by
  refine ⟨fun p => ?_, ⟨fun i => ?_, ?_⟩, fun p => ?_, fun p => ?_⟩
  · cases p
    · trivial
    · show headerRecord.Faithful (busy.buffer 0).telegram
      unfold RxRecord.Faithful; decide +kernel
    · trivial
  · revert i
    suffices h : ∀ i, (busy.buffer i).claim = .free ∨ i = 0 ∨ (busy.buffer i).telegram.payload.length = (busy.buffer i).telegram.length by
      intro i
      rcases h i with h | h | h
      · rw [h]; trivial
      · subst h; trivial
      · split <;> first | exact h | trivial
    decide +kernel
  · intro t ht
    obtain rfl : shortTelegram = t := Option.some.inj ht
    rfl
  · cases p
    · intro a ha
      obtain rfl : attempt false false = a := Option.some.inj ha
      exact ⟨by decide +kernel, by decide, by decide +kernel, fun h => by cases h⟩
    · intro a ha; cases ha
    · intro a ha; cases ha
  · cases p <;> decide +kernel

theorem test_witness_StepKeepsStoreRight : StoreRight busy := by
  have hs : ∀ i : Byte, busy.store.slot i = if i = 2 then .written exampleImage else .blank := by decide +kernel
  refine ⟨⟨by decide +kernel, ?_⟩, ?_, ?_, fun i => ?_, fun _ => by decide +kernel⟩
  · intro w hw
    obtain rfl : SlotWork.retire 2 = w := Option.some.inj hw
    exact ⟨rfl, _, rfl, by decide⟩
  · intro r hr
    obtain rfl : (⟨.slot (.program 3 exampleImage), 0, 0, false⟩ : Running) = r := Option.some.inj hr
    exact ⟨by decide, by decide +kernel, by decide +kernel, by decide +kernel⟩
  · intro w hw
    obtain rfl : SlotWork.retire 2 = w := Option.some.inj hw
    exact ⟨by decide, by decide +kernel, by decide, exampleImage, by decide +kernel⟩
  · rw [hs i]
    split
    · subst_vars; show imageSuits 2 exampleImage = true; decide +kernel
    · trivial

theorem test_witness_StepKeepsAccessRight : AccessRight (lockedAt 3) ∧ AccessRight busy :=
  ⟨⟨by decide, fun _ => rfl, fun h => by cases h⟩, ⟨by decide, fun h => (by cases h), fun h => by cases h⟩⟩

/-- A reset while the PROGRAM of a BLANK slot runs: the slot is TORN. -/
theorem test_witness_SlotsPassOneWay :
    StoreRight busy ∧ (∃ t, step busy = .next t) ∧ busy.ctrl.runningSlotWork = some (.program 3 exampleImage)
      ∧ busy.store.slot 3 = .blank ∧ (enterReset .powerOn busy).store.slot 3 = .torn :=
  ⟨test_witness_StepKeepsStoreRight, ⟨_, rfl⟩, rfl, by decide +kernel, by decide +kernel⟩

theorem test_witness_steps_are_taken : ∃ t, step busy = .next t := ⟨_, rfl⟩

theorem test_witness_ProtectedSegmentsAreKept :
    StoreRight busy ∧ busy.ctrl.boundary = some 12 ∧ (12 : Segment) ≤ segmentOfSlot 192 ∧ (12 : Segment) ≤ segmentOfSlot 255
      ∧ ∃ t, step busy = .next t :=
  ⟨test_witness_StepKeepsStoreRight, rfl, by decide, by decide, test_witness_steps_are_taken⟩
end Sys2Proof.Tests
end

