-- ==== Sys2Proof/Proofs/PortSupervision.lean ====
section
/-! SUPPORT. A fault at the Port Supervisor (R60): what leaves a port's state and FAULTS alone, what the closing of a port leaves, and each fault's row as a fault taken once. -/

namespace Sys2Proof.Machine

/-! ## The other ports of a line's event -/

/-- What an event of one line leaves alone of every other port. -/
theorem OnlyLine.port_ne {p q : Port} {s t : State} (h : OnlyLine p s t) (hq : q ≠ p) : t.port q = s.port q :=
  (onlyLine_iff.1 h).1 q hq

/-- A counter after one of the port's counters was raised. -/
theorem State.counter_count (s : State) (p : Port) (c d : CounterName) :
    (s.count p c).counter p d = if d = c then countUp (s.counter p c) else s.counter p d := by
  simp [State.counter, Counters.read_raise]

/-- A released reference is no port's concern (R49). -/
@[simp] theorem State.release_port (s : State) (ref : BufferRef) (p : Port) : (s.release ref).port p = s.port p := by
  unfold State.release
  split
  · split
    · split <;> rfl
    all_goals rfl
  · rfl

/-! ## What does not reach a port's supervisor -/

/-- A port's state and its counter FAULTS are as they were. -/
def SameSupervision (p : Port) (s t : State) : Prop :=
  (t.port p).mode = (s.port p).mode ∧ t.counter p .faults = s.counter p .faults

theorem SameSupervision.refl (p : Port) (s : State) : SameSupervision p s s := ⟨rfl, rfl⟩

theorem SameSupervision.trans {p : Port} {s t u : State} (h : SameSupervision p s t) (k : SameSupervision p t u) :
    SameSupervision p s u := ⟨k.1.trans h.1, k.2.trans h.2⟩

theorem sameSupervision_of_port {p : Port} {s t : State} (h : t.port p = s.port p) : SameSupervision p s t := by
  simp [SameSupervision, State.counter, h]

/-- A port replaced by one that differs in neither. -/
theorem sameSupervision_setPort (p : Port) (s : State) (x : LinePort) (hm : x.mode = (s.port p).mode := by rfl)
    (hc : x.counters = (s.port p).counters := by rfl) : SameSupervision p s (s.setPort p x) := by
  simp [SameSupervision, State.counter, hm, hc]

theorem sameSupervision_count {c : CounterName} (h : c ≠ .faults) (p : Port) (s : State) : SameSupervision p s (s.count p c) :=
  ⟨by simp, by rw [State.counter_count, if_neg h.symm]⟩

theorem sameSupervision_restTransmitter (p : Port) (s : State) : SameSupervision p s (restTransmitter p s) :=
  sameSupervision_setPort ..

theorem sameSupervision_removeHead (p : Port) (s : State) : SameSupervision p s (removeHead p s) := by
  unfold removeHead
  cases (s.port p).queue with
  | nil => exact .refl p s
  | cons e rest => exact (sameSupervision_setPort ..).trans (sameSupervision_of_port (State.release_port ..))

theorem sameSupervision_clearOwnMark (p : Port) (s : State) : SameSupervision p s (clearOwnMark p s) := by
  unfold clearOwnMark
  split
  · exact sameSupervision_setPort ..
  all_goals exact .refl p s

/-- The echo verdict that counts nothing (R48). -/
theorem sameSupervision_echoVerdict_none (p : Port) (s : State) : SameSupervision p s (echoVerdict p none s) := by
  unfold echoVerdict
  split
  · split
    · exact (sameSupervision_removeHead p s).trans (sameSupervision_restTransmitter ..)
    · exact .refl p s
  · exact .refl p s

theorem sameSupervision_removeStale (p : Port) (s : State) : SameSupervision p s (removeStale p s) :=
  (sameSupervision_count (by decide) p s).trans (sameSupervision_removeHead ..)

theorem sameSupervision_dropAttempt (p : Port) (a : Attempt) (s : State) : SameSupervision p s (dropAttempt p a s) := by
  refine SameSupervision.trans ?_ (sameSupervision_restTransmitter ..)
  refine (sameSupervision_clearOwnMark p s).trans ?_
  split
  · exact sameSupervision_removeStale ..
  · exact .refl ..

/-- What a transmitter's uncounted ending leaves to its supervisor (R45, R46). -/
theorem sameSupervision_endUncounted (p : Port) (s : State) : SameSupervision p s (endUncounted p s) := by
  unfold endUncounted
  cases (s.port p).tx with
  | arbitrating a | sending a =>
    dsimp only
    split
    · exact .refl p s
    · exact sameSupervision_dropAttempt p a s
  | breaking since => exact sameSupervision_restTransmitter p s
  | idle | waitGap | halted => exact .refl p s

/-- What a receiver's abort leaves to its supervisor (R29 to R33). -/
theorem sameSupervision_abortReception {counted : CounterName} (h : counted ≠ .faults) (p : Port) (next : RxState) (s : State) :
    SameSupervision p s (abortReception p counted next s) := by
  unfold abortReception
  cases (s.port p).rx with
  | filling r =>
    have freed : SameSupervision p s ((s.count p counted).freeBuffer r.buffer) :=
      (sameSupervision_count h p s).trans (sameSupervision_of_port (State.freeBuffer_port ..))
    dsimp only
    split
    · exact (freed.trans (sameSupervision_setPort ..)).trans (sameSupervision_echoVerdict_none ..)
    · exact freed.trans (sameSupervision_setPort ..)
  | search | skip | deaf => exact .refl p s

/-- The deliveries of a stuck line to the blocks are none to the supervisor (R58). -/
theorem sameSupervision_stuckToBlocks (p : Port) (s : State) : SameSupervision p s (stuckToBlocks p s) :=
  (sameSupervision_abortReception (by decide) p .skip s).trans (sameSupervision_endUncounted ..)

/-! ## The closing of a port -/

/-- The flush at its own port (R63): the queue is empty, and no counter but DROP_PORT_CLOSED has changed. -/
theorem flush_port (p : Port) (s : State) :
    ∃ v : Counters, (flush p s).port p = { s.port p with queue := [], counters := v }
      ∧ ∀ c, c ≠ .dropPortClosed → v.read c = s.counter p c := by
  unfold flush
  suffices h : ∀ (q : List EgressEntry) (t : State), ∃ v : Counters,
      (q.foldl (fun t e => (t.count p .dropPortClosed).release e.ref) t).port p = { t.port p with counters := v }
        ∧ ∀ c, c ≠ .dropPortClosed → v.read c = t.counter p c by
    obtain ⟨v, hport, hkeeps⟩ := h (s.port p).queue (s.setPort p { s.port p with queue := [] })
    exact ⟨v, by simpa using hport, fun c hc => by simpa [State.counter] using hkeeps c hc⟩
  intro q
  induction q with
  | nil => exact fun t => ⟨(t.port p).counters, rfl, fun _ _ => rfl⟩
  | cons e rest ih =>
    intro t
    obtain ⟨v, hport, hkeeps⟩ := ih ((t.count p .dropPortClosed).release e.ref)
    refine ⟨v, by simpa using hport, fun c hc => (hkeeps c hc).trans ?_⟩
    rw [State.counter, State.release_port, ← State.counter, State.counter_count, if_neg hc]

/-- A closed port as the closing leaves it (R62). -/
theorem closePort_port (p : Port) (mode : PortMode) (s : State) :
    let x := (closePort p mode s).port p
    x.mode = mode ∧ x.rx = .deaf ∧ x.tx = .halted ∧ x.breakPending = false ∧ x.queue = [] := by
  unfold closePort
  dsimp only
  generalize hclosing : State.setPort _ p _ = u
  obtain ⟨v, hport, -⟩ := flush_port p u
  rw [hport, ← hclosing]
  simp

/-- The closing counts RX_BROKEN and DROP_PORT_CLOSED alone (R35, R63). -/
theorem closePort_counter {c : CounterName} (hb : c ≠ .rxBroken) (hd : c ≠ .dropPortClosed) (p : Port) (mode : PortMode) (s : State) :
    (closePort p mode s).counter p c = s.counter p c := by
  unfold closePort
  dsimp only
  generalize hclosing : State.setPort _ p _ = u
  obtain ⟨v, hport, hkeeps⟩ := flush_port p u
  rw [State.counter, hport]
  refine (hkeeps c hd).trans ?_
  rw [← hclosing]
  cases (s.port p).rx with
  | filling r => simp [State.counter, Counters.read_raise, hb]
  | search | skip | deaf => simp [State.counter]

/-! ## A fault taken -/

/-- A fault taken once at an open port (R60): what it makes of a RUNNING port and of a RECOVERING one. -/
structure FaultTaken (p : Port) (s t : State) : Prop where
  running : (s.port p).mode = .running →
    (t.port p).mode = .recovering ∧ t.counter p .faults = countUp (s.counter p .faults)
  recovering : (s.port p).mode = .recovering →
    (t.port p).mode = .isolated ∧ t.counter p .faults = countUp (s.counter p .faults)
      ∧ (t.port p).rx = .deaf ∧ (t.port p).tx = .halted ∧ (t.port p).breakPending = false ∧ (t.port p).queue = []

theorem faultTaken_takeFault (p : Port) (s : State) : FaultTaken p s (takeFault p s) := by
  have counted : (s.count p .faults).counter p .faults = countUp (s.counter p .faults) := by simp [State.counter_count]
  constructor <;> intro hmode
  · rw [takeFault, hmode]
    exact ⟨by simp, by simpa [State.counter] using counted⟩
  · rw [takeFault, hmode]
    obtain ⟨hm, hrx, htx, hbreak, hqueue⟩ := closePort_port p .isolated (s.count p .faults)
    exact ⟨hm, (closePort_counter (by decide) (by decide) ..).trans counted, hrx, htx, hbreak, hqueue⟩

/-- A fault taken after something that does not reach the supervisor. -/
theorem FaultTaken.after {p : Port} {s t u : State} (h : SameSupervision p s t) (k : FaultTaken p t u) : FaultTaken p s u := by
  obtain ⟨hmode, hfaults⟩ := h
  constructor
  · rw [← hmode, ← hfaults]; exact k.running
  · rw [← hmode, ← hfaults]; exact k.recovering

/-- What reaches the blocks of an open port after the fault undoes nothing of it, and a port that the fault has closed it does not reach. -/
theorem FaultTaken.then_onOpenPort {p : Port} {s t : State} {f : State → State} (h : FaultTaken p s t)
    (hf : SameSupervision p t (f t)) : FaultTaken p s (onOpenPort p f t) := by
  constructor <;> intro hmode
  · obtain ⟨hrecovering, hfaults⟩ := h.running hmode
    rw [onOpenPort_open (by rw [hrecovering]; rfl)]
    exact ⟨hf.1.trans hrecovering, hf.2.trans hfaults⟩
  · rw [onOpenPort_closed (by rw [(h.recovering hmode).1]; rfl)]
    exact h.recovering hmode

/-! ## The rows of the three faults -/

/-- A STUCK fault, in either order of its deliveries (R58). -/
theorem faultTaken_stuckLine (p : Port) (order : StuckOrder) (samples : Nat) (s : State) :
    FaultTaken p s (stuckLine p order samples s) := by
  cases order with
  | blocksFirst =>
    exact .after ((sameSupervision_setPort ..).trans (sameSupervision_stuckToBlocks ..)) (faultTaken_takeFault ..)
  | faultFirst =>
    exact .after (sameSupervision_setPort ..) ((faultTaken_takeFault ..).then_onOpenPort (sameSupervision_stuckToBlocks ..))

/-- A TIMEOUT fault (R33, R57). -/
theorem faultTaken_timeLimitExpires {p : Port} {s : State} {r : RxRecord} (h : (s.port p).rx = .filling r) :
    FaultTaken p s (timeLimitExpires p s) := by
  rw [timeLimitExpires, h]
  exact .after (sameSupervision_abortReception (by decide) ..) (faultTaken_takeFault ..)

/-- A DRIVE fault (R45, R59). -/
theorem faultTaken_driveFault {p : Port} {s : State} (h : (s.port p).tx.driving = true) : FaultTaken p s (driveFault p s) := by
  rw [driveFault, if_pos h]
  exact .after ((sameSupervision_setPort ..).trans (sameSupervision_endUncounted ..)) (faultTaken_takeFault ..)

theorem onlyLine_timeLimitExpires (p : Port) (s : State) : OnlyLine p s (timeLimitExpires p s) := by
  unfold timeLimitExpires
  split
  · exact (onlyLine_abortReception ..).trans (onlyLine_takeFault ..)
  all_goals exact .refl p s

theorem onlyLine_driveFault (p : Port) (s : State) : OnlyLine p s (driveFault p s) := by
  unfold driveFault
  split
  · exact ((onlyLine_setPort ..).trans (onlyLine_endUncounted ..)).trans (onlyLine_takeFault ..)
  · exact .refl p s

/-- A run is of the stuck class from 256 bit times on, eight samples each (R10, R18). -/
theorem runClass_eq_stuck_iff (n : Nat) : runClass n = .stuck ↔ 2048 ≤ n := by
  unfold runClass
  split_ifs <;> simp <;> omega

/-- The row of a run that has reached 256 bit times and is not declared yet declares it (R10, R58). -/
theorem exec_stuckLine_declares {s : State} {p : Port} (order : StuckOrder) {samples : Nat} (hs : s.phase = .started)
    (hlength : 2048 ≤ samples ∨ Reached s p 2048 (s.port p).line.run) (hstuck : (s.port p).line.stuck = false) :
    exec (.stuckLine ⟨p, samples⟩ order) s
      = .next (onOpenPort p (stuckLine p order ((s.port p).runLength s.clock samples)) s) := by
  have hclass : runClass ((s.port p).runLength s.clock samples) = .stuck :=
    (runClass_eq_stuck_iff _).2 ((le_atLeastMeasured_iff s p 2048 samples _).2 hlength)
  refine (whenStarted_started hs).trans (congrArg _ ?_)
  unfold onOpenPort
  dsimp only
  rw [if_pos (c := (s.port p).line.stuck = false ∧ _) ⟨hstuck, hclass⟩]

/-- What R60 says of a row that acts on its own open port as a fault, and on nothing but its line. -/
theorem fault_of_onOpenPort {p : Port} {s : State} {f : State → State} (hline : OnlyLine p s (f s)) (hfault : FaultTaken p s (f s)) :
    FaultTaken p s (onOpenPort p f s)
      ∧ ((s.port p).mode = .isolated ∨ (s.port p).mode = .off → onOpenPort p f s = s)
      ∧ OnlyLine p s (onOpenPort p f s) := by
  cases hmode : (s.port p).mode with
  | running | recovering =>
    rw [onOpenPort_open (by rw [hmode]; rfl)]
    exact ⟨hfault, by simp, hline⟩
  | isolated | off =>
    rw [onOpenPort_closed (by rw [hmode]; rfl)]
    exact ⟨⟨by simp [hmode], by simp [hmode]⟩, fun _ => rfl, .refl p s⟩

/-! ## The statement -/

/-- Settles O24: each of the three rows is, on an open port, a fault taken once (R60) on nothing but its line, and on a closed port
nothing. -/
theorem secondFaultIsolatesPort : Obligations.SecondFaultIsolatesPort := by
  intro s p c hs hcause
  obtain ⟨f, hexec, hline, hfault⟩ : ∃ f : State → State,
      exec c s = .next (onOpenPort p f s) ∧ OnlyLine p s (f s) ∧ FaultTaken p s (f s) := by
    rcases hcause with ⟨⟨order, samples, rfl, hlength⟩, hstuck⟩ | ⟨rfl, r, hr⟩ | ⟨rfl, hdriving⟩
    · exact ⟨_, exec_stuckLine_declares order hs hlength hstuck, onlyLine_stuckLine .., faultTaken_stuckLine ..⟩
    · exact ⟨_, whenStarted_started hs, onlyLine_timeLimitExpires p s, faultTaken_timeLimitExpires hr⟩
    · exact ⟨_, whenStarted_started hs, onlyLine_driveFault p s, faultTaken_driveFault hdriving⟩
  obtain ⟨htaken, hclosed, honly⟩ := fault_of_onOpenPort hline hfault
  exact ⟨_, hexec, htaken.running, htaken.recovering, hclosed, fun q hq => by simp [honly.port_ne hq]⟩

end Sys2Proof.Machine
end

section
/-! SUPPORT. The store commands at the Management Unit (R106, R152): what a ready unit makes of one that the access check lets pass, and ABORT STAGE as one of them. -/

namespace Sys2Proof.Machine

/-! ## A command taken -/

/-- The placing of a reply does not reach the Store Controller. -/
@[simp] theorem placeReply_ctrl (p : Port) (reply : Telegram) (s : State) : (placeReply p reply s).ctrl = s.ctrl := by
  obtain ⟨-, -, -, -, -, -, hctrl, -⟩ := onlyLine_iff.1 (onlyLine_placeReply p reply s)
  exact hctrl

/-- What a store command leaves at the Store Controller, its reply placed or discarded. -/
theorem ctrl_of_storeReplied {ingress : Port} {source code : Byte} {result : Result} {s t : State}
    (h : storeReplied ingress source code result s = .next t) : t.ctrl = s.ctrl := by
  cases h
  exact placeReply_ctrl ..

/-- A command that a LOCKED bridge allows on its maintenance port passes where the bridge is OPEN or its port is that one (R149). -/
theorem accessPasses_of_maint {s : State} {ingress : Port} {c : MgmtCommand} (hallowed : allowedLocked (some ingress) ingress c = true)
    (h : s.mgmt.level = .open ∨ s.straps.maint = some ingress) : accessPasses s ingress c = true := by
  match hlevel : s.mgmt.level with
  | .open => rw [accessPasses, hlevel]
  | .locked =>
    have hmaint : s.straps.maint = some ingress := h.resolve_left (by simp [hlevel])
    rw [accessPasses, hlevel, hmaint]
    exact hallowed

/-- A ready unit performs a command that passes the access check and places its reply (R106, R152). -/
theorem takeCommand_ready {s : State} {ingress : Port} {c : MgmtCommand} {done : Performed} (source : Byte)
    (hready : s.mgmt.isReady = true) (hpasses : accessPasses s ingress c = true) (hdone : performCommand ingress c s = done) :
    takeCommand ingress source c s
      = placeReply ingress (replyTelegram s.address source c.code done.result done.data) done.state := by
  rw [takeCommand, if_pos hready, examineCommand, if_pos hpasses, hdone]

/-- A store command taken is answered with the result and the Store Controller it comes to (R156). -/
theorem whenStarted_takeCommand_store {s : State} {ingress : Port} {c : MgmtCommand} {rc : Result × StoreController} (source : Byte)
    (hs : Ready s) (hpasses : accessPasses s ingress c = true) (hstore : performCommand ingress c s = performStore s rc) :
    whenStarted (takeCommand ingress source c) s = storeReplied ingress source c.code rc.1 { s with ctrl := rc.2 } := by
  obtain ⟨hstarted, hready⟩ := hs
  rw [whenStarted_started hstarted, takeCommand_ready source hready hpasses hstore]
  rfl

/-! ## ABORT STAGE at the Store Controller -/

/-- An error flag pending refuses STAGE, whatever it names (R129). -/
theorem stageRecord_flagged {c : StoreController} (h : c.flagged = true) (target : Byte) (image : Option Image) :
    stageRecord target image c = (.storeFlags, c) := if_pos h

/-- ACCESS_ERROR stands after every ABORT STAGE (R130). -/
theorem flagged_abortStaged (c : StoreController) : (abortStaged c).flagged = true := by
  simp [abortStaged, StoreController.flagged]

/-- READY after ABORT STAGE says that nothing waits (R120, R130). -/
theorem ready_abortStaged (c : StoreController) : (abortStaged c).ready = c.waiting.isNone := by
  simp [abortStaged, StoreController.ready]

/-- ABORT STAGE on a started bridge alone, handed to the Management Unit (R106). -/
theorem exec_abortStage_eq (ingress : Port) (source : Byte) (s : State) :
    exec (.abortStage ingress source) s = whenStarted (takeCommand ingress source .abortStage) s := rfl

/-- The row of ABORT STAGE (R130). -/
theorem exec_abortStage {s : State} {ingress : Port} (source : Byte) (h : ReadyOrMaint s ingress) :
    exec (.abortStage ingress source) s = storeReplied ingress source 0x12 .accessError { s with ctrl := abortStaged s.ctrl } := by
  obtain ⟨hready, hmaint⟩ := h
  have hpasses : accessPasses s ingress .abortStage = true := accessPasses_of_maint (by simp [allowedLocked]) hmaint
  have hstore : performCommand ingress .abortStage s = performStore s (.accessError, abortStaged s.ctrl) := by rw [performCommand]
  rw [exec_abortStage_eq, whenStarted_takeCommand_store source hready hpasses hstore, MgmtCommand.code]

/-- Settles O44: the row leaves the Store Controller as `abortStaged` makes it, whatever becomes of the reply, and its ACCESS_ERROR
refuses the next STAGE. -/
theorem abortStageDiscardsRecord : Obligations.AbortStageDiscardsRecord := by
  intro s ingress source h
  have hexec := exec_abortStage source h
  refine ⟨hexec, fun t ht => ?_⟩
  have hctrl : t.ctrl = abortStaged s.ctrl := ctrl_of_storeReplied (hexec.symm.trans ht)
  rw [hctrl]
  refine ⟨rfl, rfl, rfl, fun hwaiting => ?_, fun target image => ?_⟩
  · rw [ready_abortStaged, hwaiting]
    rfl
  · rw [stageRecord_flagged (flagged_abortStaged s.ctrl)]

end Sys2Proof.Machine
end

section
/-! SUPPORT. UNLOCK (R148): what the Management Unit makes of a code, case by case, and the row of a ready bridge that answers it. -/

namespace Sys2Proof.Machine

/-! ## UNLOCK at the Management Unit -/

section
variable {m : ManagementUnit} {code : AccessCode}

/-- At three mismatches nothing is compared, at either access level (R148). -/
theorem unlockUnit_barred (hfailed : 3 ≤ m.failed) : unlockUnit code m = (.keyBarred, m) := by
  rw [unlockUnit, if_pos (show Config.unlockLimit ≤ m.failed from hfailed)]

/-- Below three mismatches an OPEN bridge takes any code (R148). -/
theorem unlockUnit_open (hfailed : m.failed < 3) (hlevel : m.level = .open) : unlockUnit code m = (.ok, m) := by
  rw [unlockUnit, if_neg (show ¬ Config.unlockLimit ≤ m.failed from hfailed.not_ge), hlevel]

/-- Below three mismatches a LOCKED bridge compares the code with its working one (R148). -/
theorem unlockUnit_locked (hfailed : m.failed < 3) (hlevel : m.level = .locked) :
    unlockUnit code m
      = if m.code = some code then (.ok, { m with level := .open }) else (.keyMismatch, { m with failed := m.failed + 1 }) := by
  rw [unlockUnit, if_neg (show ¬ Config.unlockLimit ≤ m.failed from hfailed.not_ge), hlevel]

end

/-! ## The row -/

/-- The access check lets an UNLOCK pass at either level and on any port (R148, R149). -/
theorem accessPasses_unlock (s : State) (ingress : Port) (code : AccessCode) : accessPasses s ingress (.unlock code) = true := by
  match hlevel : s.mgmt.level with
  | .open => rw [accessPasses, hlevel]
  | .locked => rw [accessPasses, hlevel, allowedLocked]

/-- UNLOCK on a started bridge alone, handed to the Management Unit (R106). -/
theorem exec_unlock_eq (ingress : Port) (source : Byte) (code : AccessCode) (s : State) :
    exec (.unlock ingress source code) s = whenStarted (takeCommand ingress source (.unlock code)) s := rfl

/-- The row of UNLOCK: what `unlockUnit` makes of the code is the result and the Management Unit's next state, and the reply reports
the access level and the count after it (R148, R157). -/
theorem exec_unlock {s : State} {result : Result} {m : ManagementUnit} {code : AccessCode} (ingress : Port) (source : Byte)
    (hs : Ready s) (hunit : unlockUnit code s.mgmt = (result, m)) :
    exec (.unlock ingress source code) s
      = replied ingress source 0x20 result [m.level.code, BitVec.ofNat 8 m.failed] { s with mgmt := m } := by
  obtain ⟨hstarted, hready⟩ := hs
  have hperform : performCommand ingress (.unlock code) s
      = ⟨result, [m.level.code, BitVec.ofNat 8 m.failed], { s with mgmt := m }⟩ := by
    rw [performCommand, performUnlock, hunit]
  rw [exec_unlock_eq, whenStarted_started hstarted, takeCommand_ready source hready (accessPasses_unlock s ingress code) hperform,
    MgmtCommand.code]
  rfl

/-- Settles O46: the row answers with what `unlockUnit` comes to, and the four cases are that function's. -/
theorem unlockComparesCode : Obligations.UnlockComparesCode := by
  intro s ingress source code hs
  refine ⟨fun hfailed => ?barred, fun hfailed hlevel => ?opened, fun hfailed hlevel hcode => ?matching,
    fun hfailed hlevel hcode => ?mismatching⟩
  case barred => exact exec_unlock ingress source hs (unlockUnit_barred hfailed)
  case opened => exact exec_unlock ingress source hs (unlockUnit_open hfailed hlevel)
  case matching => exact exec_unlock ingress source hs ((unlockUnit_locked hfailed hlevel).trans (if_pos hcode))
  case mismatching => exact exec_unlock ingress source hs ((unlockUnit_locked hfailed hlevel).trans (if_neg hcode))

end Sys2Proof.Machine
end

section
/-! SUPPORT. What a step can do to the part of the bridge behind its lines: the store and its controller, the access level, the straps,
the record. Said once for every row; the statements on the store, the access level and the queue of commands are read off it. -/

namespace Sys2Proof.Machine

/-! ## What a line's event, a reply and a classification leave alone -/

/-- Nothing behind the lines has changed: the phase, the clock, the store and its controller, the working address, the straps, the record,
the commands that wait, and of the Management Unit all but its reply. -/
structure Quiet (s t : State) : Prop where
  phase : t.phase = s.phase
  clock : t.clock = s.clock
  store : t.store = s.store
  ctrl : t.ctrl = s.ctrl
  address : t.address = s.address
  straps : t.straps = s.straps
  record : t.record = s.record
  pending : t.pending = s.pending
  restartMark : t.mgmt.restartMark = s.mgmt.restartMark
  level : t.mgmt.level = s.mgmt.level
  code : t.mgmt.code = s.mgmt.code
  failed : t.mgmt.failed = s.mgmt.failed

theorem Quiet.refl (s : State) : Quiet s s := ⟨rfl, rfl, rfl, rfl, rfl, rfl, rfl, rfl, rfl, rfl, rfl, rfl⟩

theorem Quiet.trans {s t u : State} (h : Quiet s t) (k : Quiet t u) : Quiet s u where
  phase := k.phase.trans h.phase
  clock := k.clock.trans h.clock
  store := k.store.trans h.store
  ctrl := k.ctrl.trans h.ctrl
  address := k.address.trans h.address
  straps := k.straps.trans h.straps
  record := k.record.trans h.record
  pending := k.pending.trans h.pending
  restartMark := k.restartMark.trans h.restartMark
  level := k.level.trans h.level
  code := k.code.trans h.code
  failed := k.failed.trans h.failed

/-- The frame of a port's operation is quiet. -/
theorem OnlyLine.quiet {p : Port} {s t : State} (h : OnlyLine p s t) : Quiet s t := by
  obtain ⟨-, hphase, hclock, -, -, hstore, hctrl, haddress, hstraps, hrecord, hpending, hmark, hlevel, hcode, hfailed⟩ :=
    onlyLine_iff.1 h
  exact ⟨hphase, hclock, hstore, hctrl, haddress, hstraps, hrecord, hpending, hmark, hlevel, hcode, hfailed⟩

/-- A reset reads nothing that a line's event changes. -/
theorem Quiet.enterReset_eq {s t : State} (h : Quiet s t) (cause : Cause) : enterReset cause t = enterReset cause s := by
  simp [enterReset, h.clock, h.store, h.ctrl, h.straps, h.record, h.pending]

/-! ## Events of the lines -/

/-- What an event of a line comes to behind the lines: nothing, or a line reset (R34). -/
def LineReach (s t : State) : Prop := Quiet s t ∨ ∃ p, t = enterReset (.lineReset p) s

theorem LineReach.refl (s : State) : LineReach s s := .inl (.refl s)

theorem OnlyLine.lineReach {p : Port} {s t : State} (h : OnlyLine p s t) : LineReach s t := .inl h.quiet

theorem Quiet.trans_lineReach {s t u : State} (h : Quiet s t) (k : LineReach t u) : LineReach s u := by
  rcases k with k | ⟨p, rfl⟩
  · exact .inl (h.trans k)
  · exact .inr ⟨p, h.enterReset_eq _⟩

/-- What follows on a live port only follows where the bridge was not reset. -/
theorem LineReach.onLivePort {s t : State} {p : Port} {f : State → State} (h : LineReach s t) (hf : ∀ u, LineReach u (f u)) :
    LineReach s (onLivePort p f t) := by
  rcases h with h | ⟨q, rfl⟩
  · unfold Machine.onLivePort ifStarted onOpenPort
    split
    · split
      · exact h.trans_lineReach (hf t)
      · exact .inl h
    · exact .inl h
  · rw [onLivePort_inReset rfl]
    exact .inr ⟨q, rfl⟩

theorem lineReach_onOpenPort {p : Port} {f : State → State} {s : State} (hf : LineReach s (f s)) :
    LineReach s (onOpenPort p f s) := by
  unfold onOpenPort
  split
  · exact hf
  · exact .refl s

theorem lineReach_takeMissedRun (p : Port) (upTo recessives : Nat) (s : State) : LineReach s (takeMissedRun p upTo recessives s) := by
  rcases takeMissedRun_frame p upTo recessives s with h | h
  · exact h.lineReach
  · exact .inr ⟨p, h⟩

theorem lineReach_afterMissed {p : Port} {recessives rest : Nat} {row : State → State} (hrow : ∀ u, LineReach u (row u)) (s : State) :
    LineReach s (afterMissed p recessives rest row s) :=
  (lineReach_takeMissedRun p _ recessives s).onLivePort fun u => (onlyLine_takeMissedGap p rest u).quiet.trans_lineReach (hrow _)

theorem lineReach_longBreak (p : Port) (s : State) : LineReach s (longBreak p s) := by
  unfold longBreak
  split
  · exact .refl s
  split
  · exact .inr ⟨p, rfl⟩
  · exact (onlyLine_breakEnds p s).lineReach

theorem onlyLine_takeHeader (p : Port) (c : Character) (start : StartBit) (s : State) : OnlyLine p s (takeHeader p c start s) := by
  unfold takeHeader
  split
  · exact (onlyLine_count ..).trans (onlyLine_setPort ..)
  · exact (onlyLine_setBuffer ..).trans (onlyLine_setPort ..)

theorem quiet_acceptTelegram (p : Port) (r : RxRecord) (s : State) : Quiet s (acceptTelegram p r s) := by
  unfold acceptTelegram
  split
  · exact ((onlyLine_count ..).trans (onlyLine_freeBuffer ..)).quiet
  · exact ⟨rfl, rfl, rfl, rfl, rfl, rfl, rfl, rfl, rfl, rfl, rfl, rfl⟩

theorem quiet_completeTelegram (p : Port) (r : RxRecord) (received : Check) (s : State) : Quiet s (completeTelegram p r received s) := by
  have hsearch : OnlyLine p s (s.setPort p { s.port p with rx := .search }) := onlyLine_setPort ..
  unfold completeTelegram
  dsimp only
  split
  · split
    · exact (((hsearch.trans (onlyLine_endProbation ..)).trans (onlyLine_freeBuffer ..)).trans (onlyLine_echoVerdict ..)).quiet
    · exact (hsearch.trans (onlyLine_endProbation ..)).quiet.trans (quiet_acceptTelegram ..)
  · split
    · exact ((hsearch.trans (onlyLine_freeBuffer ..)).trans (onlyLine_echoVerdict ..)).quiet
    · exact ((hsearch.trans (onlyLine_count ..)).trans (onlyLine_freeBuffer ..)).quiet

theorem quiet_storeCharacter (p : Port) (r : RxRecord) (c : Character) (s : State) : Quiet s (storeCharacter p r c s) := by
  unfold storeCharacter
  dsimp only
  generalize (if r.position + 1 = 3 then some (5 + c.data.toNat % 32) else r.expected) = expected
  split
  · exact quiet_completeTelegram ..
  split
  · exact (onlyLine_setPort ..).quiet
  · exact ((onlyLine_setBuffer ..).trans (onlyLine_setPort ..)).quiet

theorem lineReach_deliverCharacter (p : Port) (c : Character) (start : StartBit) {between : State → State}
    (hbetween : ∀ u, LineReach u (between u)) (s : State) : LineReach s (deliverCharacter p c start between s) := by
  unfold deliverCharacter
  split
  · split
    · exact (onlyLine_setPort ..).lineReach
    split
    · exact (onlyLine_takeHeader ..).lineReach
    · exact (onlyLine_setPort ..).lineReach
  · split
    · exact .refl s
    split
    · exact (onlyLine_takeHeader ..).lineReach
    · exact .refl s
  · split
    · exact (onlyLine_abortReception ..).lineReach
    split
    · exact ((onlyLine_abortReception ..).quiet.trans_lineReach (hbetween _)).onLivePort fun u => (onlyLine_takeHeader ..).lineReach
    · exact .inl (quiet_storeCharacter ..)
  · exact .refl s

theorem lineReach_receiveCharacter (p : Port) (c : Character) (samples : List Level) {between : State → State}
    (hbetween : ∀ u, LineReach u (between u)) (s : State) : LineReach s (receiveCharacter p c samples between s) :=
  (lineReach_deliverCharacter p c _ hbetween s).onLivePort fun _ => (onlyLine_setPort ..).lineReach

theorem lineReach_takeRival (p : Port) (rival : Option Rival) (s : State) : LineReach s (takeRival p rival s) := by
  unfold takeRival
  split
  · split
    · exact .refl s
    · exact (LineReach.refl s).onLivePort (lineReach_afterMissed (lineReach_receiveCharacter _ _ _ .refl))
  · exact .refl s

theorem onlyLine_stuckRunEnd (p : Port) (s : State) : OnlyLine p s (stuckRunEnd p s) := by
  unfold stuckRunEnd
  split
  · exact onlyLine_setPort ..
  · exact .refl p s

theorem onlyLine_arbitrationLost (p : Port) (s : State) : OnlyLine p s (arbitrationLost p s) := by
  unfold arbitrationLost
  split
  · split
    · exact .refl p s
    · exact onlyLine_failAttempt ..
  all_goals exact .refl p s

theorem onlyLine_collide (p : Port) (s : State) : OnlyLine p s (collide p s) := by
  unfold collide
  split
  iterate 2
    · split
      · exact .refl p s
      · exact onlyLine_failAttempt ..
  all_goals exact .refl p s

theorem onlyLine_completeAttempt (p : Port) (a : Attempt) (s : State) : OnlyLine p s (completeAttempt p a s) := by
  unfold completeAttempt
  dsimp only
  split
  · exact (onlyLine_endProbation ..).trans (onlyLine_setPort ..)
  · exact ((onlyLine_endProbation ..).trans (onlyLine_removeHead ..)).trans (onlyLine_restTransmitter ..)

theorem onlyLine_attemptCompletion (p : Port) (s : State) : OnlyLine p s (attemptCompletion p s) := by
  unfold attemptCompletion
  split
  iterate 2
    · split
      · exact .refl p s
      · exact onlyLine_completeAttempt ..
  all_goals exact .refl p s

theorem onlyLine_breakEnd (p : Port) (s : State) : OnlyLine p s (breakEnd p s) := by
  unfold breakEnd
  split
  · exact onlyLine_restTransmitter ..
  all_goals exact .refl p s

theorem onlyLine_workGone (p : Port) (s : State) : OnlyLine p s (workGone p s) := by
  unfold workGone
  split
  · split
    · exact .refl p s
    · exact onlyLine_setPort ..
  all_goals exact .refl p s

theorem onlyLine_entryExpires (p : Port) (ref : BufferRef) (s : State) : OnlyLine p s (entryExpires p ref s) := by
  unfold entryExpires
  dsimp only
  split
  · exact (((onlyLine_count ..).trans (onlyLine_setPort ..)).trans (onlyLine_release ..)).trans (onlyLine_workGone ..)
  · exact .refl p s

theorem onlyLine_attemptExpires (p : Port) (s : State) : OnlyLine p s (attemptExpires p s) := by
  unfold attemptExpires
  split
  iterate 2
    · split
      · exact .refl p s
      · exact onlyLine_setPort ..
  all_goals exact .refl p s

/-! ## Classification -/

theorem quiet_enqueueOn (i : Fin Config.poolSize) (s : State) (p : Port) : Quiet s (enqueueOn i s p) := by
  unfold enqueueOn
  split
  · dsimp only
    split
    · exact ((onlyLine_setBuffer ..).trans (onlyLine_appendEntry ..)).quiet
    all_goals exact (onlyLine_appendEntry ..).quiet
  · exact (onlyLine_count ..).quiet

theorem quiet_enqueue (i : Fin Config.poolSize) (ingress : Port) (t : Telegram) (set : PortSet) (s : State) :
    Quiet s (enqueue i ingress t set s) := by
  have hplaced : ∀ (ports : List Port) (u : State), Quiet u (ports.foldl (enqueueOn i) u) := by
    intro ports
    induction ports with
    | nil => exact .refl
    | cons p rest ih => exact fun u => (quiet_enqueueOn i u p).trans (ih _)
  have h := (onlyLine_setBuffer ingress s i ⟨.held ingress 0, t⟩).quiet.trans (hplaced set.ports _)
  unfold enqueue
  dsimp only
  split
  · exact h.trans (onlyLine_freeBuffer ingress ..).quiet
  · exact h

theorem quiet_raiseHit (entry : Option (Fin 240)) (s : State) : Quiet s (raiseHit entry s) := by
  unfold raiseHit
  split <;> exact ⟨rfl, rfl, rfl, rfl, rfl, rfl, rfl, rfl, rfl, rfl, rfl, rfl⟩

theorem quiet_applyDecision (i : Fin Config.poolSize) (ingress : Port) (t : Telegram) (d : Decision) (s : State) :
    Quiet s (applyDecision i ingress t d s) := by
  have hdropped (c : CounterName) : Quiet s (((raiseHit d.entry s).count ingress c).freeBuffer i) :=
    (quiet_raiseHit ..).trans ((onlyLine_count ingress ..).trans (onlyLine_freeBuffer ..)).quiet
  unfold applyDecision
  dsimp only
  split
  · exact hdropped _
  split
  · exact hdropped _
  · exact (quiet_raiseHit ..).trans (quiet_enqueue ..)

theorem quiet_routeTelegram (i : Fin Config.poolSize) (ingress : Port) (t : Telegram) (s : State) :
    Quiet s (routeTelegram i ingress t s) := by
  unfold routeTelegram
  split
  · exact quiet_applyDecision ..
  · split
    · exact (onlyLine_count ingress ..).quiet.trans (quiet_applyDecision ..)
    · exact quiet_applyDecision ..

/-! ## Management commands -/

/-- The row of a management command hands it to the Management Unit (R106; log entry 2). -/
theorem exec_of_commandOf {c : Instr} {ingress : Port} {source : Byte} {m : MgmtCommand} (h : commandOf c = some (ingress, source, m))
    (s : State) : exec c s = whenStarted (takeCommand ingress source m) s := by
  cases c <;> simp only [commandOf, Option.some.injEq, Prod.mk.injEq, reduceCtorEq] at h <;> obtain ⟨rfl, rfl, rfl⟩ := h <;> rfl

/-- What the Store Controller's commands make of it. -/
inductive StoreCommand (s : State) : StoreController → Prop
  | stage (target : Byte) (image : Option Image) : StoreCommand s (stageRecord target image s.ctrl).2
  | execute (ingress : Port) (operation echo : Byte) : StoreCommand s (executeStore ingress operation echo s).2
  | abortStage : StoreCommand s (abortStaged s.ctrl)
  | clearFlags : StoreCommand s (clearFlags s.ctrl)
  | raiseProtection (segment : Byte) : StoreCommand s (raiseBoundary segment s.ctrl).2

/-- What a step can come to behind the lines. -/
inductive CoreStep (s t : State) : Prop
  /-- An event of a line, a classification, a command that only reads or acts on a port. -/
  | quiet (h : Quiet s t)
  | reset (cause : Cause) (h : t = enterReset cause s)
  | startUp (straps : Straps) (hphase : s.phase = .inReset) (h : t = startUp straps s)
  | store (ctrl : StoreController) (hphase : s.phase = .started) (hctrl : StoreCommand s ctrl) (h : Quiet { s with ctrl := ctrl } t)
  | unlock (code : AccessCode) (h : Quiet { s with mgmt := (unlockUnit code s.mgmt).2 } t)
  | restart (hopen : s.mgmt.level = .open) (h : Quiet { s with mgmt := { s.mgmt with restartMark := true } } t)
  | programCompletion (hphase : s.phase = .started) (h : t = programCompletes s)
  | retireCompletion (hphase : s.phase = .started) (h : t = retireCompletes s)
  | eraseSegmentCompletion (hphase : s.phase = .started) (h : t = eraseSegmentCompletes s)
  | segmentEraseStep (hphase : s.phase = .started) (h : t = eraseStep s)
  | blankCheckCompletion (hphase : s.phase = .started) (h : t = blankCheckCompletes s)

theorem LineReach.coreStep {s t : State} (h : LineReach s t) : CoreStep s t := by
  rcases h with h | ⟨p, h⟩
  · exact .quiet h
  · exact .reset _ h

/-! What a command does before its reply is quiet, but for a store command, an UNLOCK and a RESTART. -/

theorem quiet_restorePort (ingress p : Port) (s : State) : Quiet s (restorePort ingress p s).2 := by
  unfold restorePort
  split
  · split
    · exact .refl s
    · exact (onlyLine_openPort ..).quiet
  all_goals exact .refl s

theorem quiet_disablePort (p : Port) (s : State) : Quiet s (disablePort p s).2 := by
  unfold disablePort
  split
  iterate 2 · exact (onlyLine_closePort ..).quiet
  · exact (onlyLine_setPort ..).quiet
  · exact .refl s

theorem quiet_enablePort (p : Port) (s : State) : Quiet s (enablePort p s).2 := by
  unfold enablePort
  split
  · exact (onlyLine_openPort ..).quiet
  all_goals exact .refl s

theorem quiet_performPortControl (ingress : Port) (port action : Byte) (s : State) :
    Quiet s (performPortControl ingress port action s).state := by
  unfold performPortControl
  split
  · dsimp only
    split
    · exact quiet_restorePort ..
    · exact quiet_disablePort ..
    · exact quiet_enablePort ..
  · exact .refl s

theorem quiet_requestBreak (p : Port) (s : State) : Quiet s (requestBreak p s).2 := by
  unfold requestBreak
  split
  · exact ((onlyLine_setPort ..).trans (onlyLine_workAppears ..)).quiet
  · exact .refl s

theorem quiet_performSendBreak (port : Byte) (s : State) : Quiet s (performSendBreak port s).state := by
  unfold performSendBreak
  split
  · exact .refl s
  · exact quiet_requestBreak ..

theorem quiet_performReadPortCounters (port group : Byte) (s : State) : Quiet s (performReadPortCounters port group s).state := by
  unfold performReadPortCounters
  split
  · exact .refl s
  · split <;> exact .refl s

theorem quiet_performClearCounters (port : Byte) (s : State) : Quiet s (performClearCounters port s).state := by
  unfold performClearCounters
  split
  · exact .refl s
  · exact (onlyLine_setPort ..).quiet

/-- What performing a command comes to, in a state that passes its access check where it is a RESTART (R149, R158). -/
theorem coreStep_performCommand {ingress : Port} {m : MgmtCommand} {s t : State} (hs : s.phase = .started)
    (hopen : m = .restart → s.mgmt.level = .open) (ht : Quiet (performCommand ingress m s).state t) : CoreStep s t := by
  cases m with
  | status | readEntry slot | bad code => exact .quiet ht
  | readPortCounters port group => exact .quiet ((quiet_performReadPortCounters port group s).trans ht)
  | clearCounters port => exact .quiet ((quiet_performClearCounters port s).trans ht)
  | stage target image => exact .store _ hs (.stage target image) ht
  | execute operation echo => exact .store _ hs (.execute ingress operation echo) ht
  | abortStage => exact .store _ hs .abortStage ht
  | clearStoreFlags => exact .store _ hs .clearFlags ht
  | raiseProtection segment => exact .store _ hs (.raiseProtection segment) ht
  | unlock code => exact .unlock code ht
  | portControl port action => exact .quiet ((quiet_performPortControl ..).trans ht)
  | sendBreak port => exact .quiet ((quiet_performSendBreak port s).trans ht)
  | restart => exact .restart (hopen rfl) ht

/-- A command handed over (R106, R107). -/
theorem coreStep_takeCommand (ingress : Port) (source : Byte) (m : MgmtCommand) {s : State} (hs : s.phase = .started) :
    CoreStep s (takeCommand ingress source m s) := by
  unfold takeCommand
  split
  · have hreply (u : State) (reply : Telegram) : Quiet u (placeReply ingress reply u) := (onlyLine_placeReply ..).quiet
    unfold examineCommand
    split
    · next hpasses =>
      refine coreStep_performCommand (ingress := ingress) (m := m) hs ?_ (hreply ..)
      rintro rfl
      match hlevel : s.mgmt.level with
      | .open => rfl
      | .locked => simp [accessPasses, hlevel, allowedLocked] at hpasses
    · exact .quiet (hreply ..)
  · exact .quiet (onlyLine_count ..).quiet

/-! ## Every row -/

/-- A row of one port that is an event of its line. -/
theorem coreStep_whenStarted_line {p : Port} {f : State → State} {s t : State} (hf : LineReach s (f s))
    (h : whenStarted (onOpenPort p f) s = .next t) : CoreStep s t := by
  cases hs : s.phase with
  | started =>
    rw [whenStarted_started hs] at h
    cases h
    exact (lineReach_onOpenPort hf).coreStep
  | inReset =>
    rw [whenStarted_inReset hs] at h
    cases h
    exact .quiet (.refl s)

/-- A row that acts on a started bridge alone. -/
theorem coreStep_whenStarted {f : State → State} {s t : State} (hf : s.phase = .started → CoreStep s (f s))
    (h : whenStarted f s = .next t) : CoreStep s t := by
  cases hs : s.phase with
  | started =>
    rw [whenStarted_started hs] at h
    cases h
    exact hf hs
  | inReset =>
    rw [whenStarted_inReset hs] at h
    cases h
    exact .quiet (.refl s)

/-- A classification is a command after its buffer was freed, or quiet (R103, R105). -/
theorem classify_cases (s : State) (hs : s.phase = .started) : ∃ u, Quiet s u ∧ CoreStep u (classify s) := by
  unfold classify
  split
  · exact ⟨s, .refl s, .quiet (.refl s)⟩
  · next i rest _ =>
    have htaken : Quiet s { s with classQueue := rest } := ⟨rfl, rfl, rfl, rfl, rfl, rfl, rfl, rfl, rfl, rfl, rfl, rfl⟩
    split
    · next ingress _ =>
      unfold classifyBuffer
      dsimp only
      split
      · exact ⟨_, htaken.trans (onlyLine_freeBuffer ingress _ i).quiet, coreStep_takeCommand ingress _ _ (by exact hs)⟩
      · exact ⟨_, htaken, .quiet (quiet_routeTelegram ..)⟩
    all_goals exact ⟨_, htaken, .quiet (.refl _)⟩

/-- Every row is answered with a next state. -/
theorem exec_next (c : Instr) (s : State) : ∃ t, exec c s = .next t := by
  cases c <;> exact ⟨_, rfl⟩

/-- What every row can come to behind the lines, after what is quiet. -/
theorem exec_reach {c : Instr} {s t : State} (h : exec c s = .next t) : ∃ u, Quiet s u ∧ CoreStep u t := by
  match hc : commandOf c with
  | some (ingress, source, m) =>
    rw [exec_of_commandOf hc] at h
    exact ⟨s, .refl s, coreStep_whenStarted (coreStep_takeCommand ingress source m) h⟩
  | none =>
    cases c with
    | classification =>
      cases hs : s.phase with
      | started =>
        obtain ⟨u, hu, hcore⟩ := classify_cases s hs
        have ht : t = classify s := by
          have := (whenStarted_started (f := classify) hs).symm.trans h
          cases this; rfl
        exact ⟨u, hu, ht ▸ hcore⟩
      | inReset =>
        have ht : t = s := by
          have := (whenStarted_inReset (f := classify) hs).symm.trans h
          cases this; rfl
        exact ⟨s, .refl s, .quiet (ht ▸ .refl s)⟩
    | characterReceived p reception rival =>
      refine ⟨s, .refl s, coreStep_whenStarted_line ?_ h⟩
      split
      · exact lineReach_afterMissed (lineReach_receiveCharacter p _ _ (lineReach_takeRival p rival)) s
      · exact .refl s
    | idleGap rest =>
      refine ⟨s, .refl s, coreStep_whenStarted_line ?_ h⟩
      dsimp only
      split
      · exact (lineReach_takeMissedRun ..).onLivePort fun u => (onlyLine_idleGap ..).lineReach
      · exact .refl s
    | shortBreak p samples =>
      refine ⟨s, .refl s, coreStep_whenStarted_line ?_ h⟩
      dsimp only
      split
      · exact (onlyLine_breakEnds ..).lineReach
      · exact (onlyLine_normalRunEnds ..).lineReach
      all_goals exact .refl s
    | longBreak p samples =>
      refine ⟨s, .refl s, coreStep_whenStarted_line ?_ h⟩
      split
      · exact lineReach_longBreak p s
      · exact .refl s
    | stuckLine run order =>
      refine ⟨s, .refl s, coreStep_whenStarted_line ?_ h⟩
      dsimp only
      split
      · exact (onlyLine_stuckLine ..).lineReach
      · exact .refl s
    | candidateStartBit found =>
      refine ⟨s, .refl s, coreStep_whenStarted_line ?_ h⟩
      dsimp only
      split
      · exact .refl s
      split
      · exact lineReach_afterMissed (fun u => (onlyLine_candidateStartBit ..).lineReach) s
      · exact lineReach_afterMissed (fun u => (onlyLine_passOver ..).lineReach) s
    | falseStart p second third fourth =>
      refine ⟨s, .refl s, coreStep_whenStarted_line ?_ h⟩
      split
      · exact lineReach_afterMissed (fun u => (onlyLine_falseStart ..).lineReach) s
      · exact .refl s
    | telegramTimeLimitExpiry p => exact ⟨s, .refl s, coreStep_whenStarted_line (onlyLine_timeLimitExpires p s).lineReach h⟩
    | arbitrationLost p => exact ⟨s, .refl s, coreStep_whenStarted_line (onlyLine_arbitrationLost p s).lineReach h⟩
    | collision p => exact ⟨s, .refl s, coreStep_whenStarted_line (onlyLine_collide p s).lineReach h⟩
    | driveFault p => exact ⟨s, .refl s, coreStep_whenStarted_line (onlyLine_driveFault p s).lineReach h⟩
    | attemptCompletion p => exact ⟨s, .refl s, coreStep_whenStarted_line (onlyLine_attemptCompletion p s).lineReach h⟩
    | breakEnd p => exact ⟨s, .refl s, coreStep_whenStarted_line (onlyLine_breakEnd p s).lineReach h⟩
    | entryDeadlineExpiry p ref => exact ⟨s, .refl s, coreStep_whenStarted_line (onlyLine_entryExpires p ref s).lineReach h⟩
    | deadlineExpiryDuringAttempt p => exact ⟨s, .refl s, coreStep_whenStarted_line (onlyLine_attemptExpires p s).lineReach h⟩
    | stuckRunEnd p => exact ⟨s, .refl s, coreStep_whenStarted_line (onlyLine_stuckRunEnd p s).lineReach h⟩
    | programCompletion => exact ⟨s, .refl s, coreStep_whenStarted (fun hs => .programCompletion hs rfl) h⟩
    | retireCompletion => exact ⟨s, .refl s, coreStep_whenStarted (fun hs => .retireCompletion hs rfl) h⟩
    | eraseSegmentCompletion => exact ⟨s, .refl s, coreStep_whenStarted (fun hs => .eraseSegmentCompletion hs rfl) h⟩
    | segmentEraseStep => exact ⟨s, .refl s, coreStep_whenStarted (fun hs => .segmentEraseStep hs rfl) h⟩
    | blankCheckCompletion => exact ⟨s, .refl s, coreStep_whenStarted (fun hs => .blankCheckCompletion hs rfl) h⟩
    | restartReset =>
      refine ⟨s, .refl s, coreStep_whenStarted (fun _ => ?_) h⟩
      split
      · exact .reset _ rfl
      · exact .quiet (.refl s)
    | powerOn => cases h; exact ⟨s, .refl s, .reset _ rfl⟩
    | resetPin => cases h; exact ⟨s, .refl s, .reset _ rfl⟩
    | startUp straps =>
      cases h
      refine ⟨s, .refl s, ?_⟩
      split
      · next hs => exact .startUp straps hs rfl
      · exact .quiet (.refl s)
    | _ => cases hc

/-! ## A step -/

/-- A step is a row, with the queue of commands as it then is, or a tick of the clock (log entry 3). -/
theorem step_cases {s t : State} (h : step s = .next t) :
    t = tick s ∨ ∃ c rest, exec c { s with pending := rest } = .next t := by
  unfold step at h
  split at h
  · next c rest _ => exact .inr ⟨c, rest, h⟩
  · split at h
    · next c _ => exact .inr ⟨c, s.pending, h⟩
    · cases h; exact .inl rfl

/-- What every step keeps: what the queue of commands and the clock do not reach and every row keeps. -/
theorem step_keeps {P : State → Prop} (hpending : ∀ s rest, P s → P { s with pending := rest }) (htick : ∀ s, P s → P (tick s))
    (hexec : ∀ c s t, P s → exec c s = .next t → P t) {s t : State} (hs : P s) (h : step s = .next t) : P t := by
  rcases step_cases h with rfl | ⟨c, rest, hc⟩
  · exact htick s hs
  · exact hexec c _ t (hpending s rest hs) hc

/-- A step behind the lines: quiet but for the clock and the queue of commands, and then what a row comes to. -/
theorem step_reach {s t : State} (h : step s = .next t) :
    t = tick s ∨ ∃ rest u, Quiet { s with pending := rest } u ∧ CoreStep u t := by
  rcases step_cases h with h | ⟨c, rest, hc⟩
  · exact .inl h
  · exact .inr ⟨rest, exec_reach hc⟩

/-! ## The queue of commands -/

theorem programCompletes_pending (s : State) : (programCompletes s).pending = s.pending := by
  unfold programCompletes; split <;> rfl

theorem retireCompletes_pending (s : State) : (retireCompletes s).pending = s.pending := by
  unfold retireCompletes; split <;> rfl

theorem eraseSegmentCompletes_pending (s : State) : (eraseSegmentCompletes s).pending = s.pending := by
  unfold eraseSegmentCompletes; split <;> simp only [State.setRunning, segmentErased]

theorem eraseStep_pending (s : State) : (eraseStep s).pending = s.pending := by
  unfold eraseStep; split <;> simp only [State.setRunning, segmentErased]

theorem blankCheckCompletes_pending (s : State) : (blankCheckCompletes s).pending = s.pending := by
  unfold blankCheckCompletes; split <;> rfl

/-- Nothing that a row does behind the lines reaches the commands that wait. -/
theorem CoreStep.pending_eq {s t : State} (h : CoreStep s t) : t.pending = s.pending := by
  cases h with
  | quiet h => exact h.pending
  | reset cause h => rw [h]; rfl
  | startUp straps _ h => rw [h]; rfl
  | store ctrl _ _ h | unlock code h | restart _ h => exact h.pending
  | programCompletion _ h => rw [h, programCompletes_pending]
  | retireCompletion _ h => rw [h, retireCompletes_pending]
  | eraseSegmentCompletion _ h => rw [h, eraseSegmentCompletes_pending]
  | segmentEraseStep _ h => rw [h, eraseStep_pending]
  | blankCheckCompletion _ h => rw [h, blankCheckCompletes_pending]

/-- Settles O3: no row faults or refuses, and what a row comes to behind the lines keeps the commands that wait. -/
theorem everyCommandAnswersNext : Obligations.EveryCommandAnswersNext := by
  intro c s
  obtain ⟨t, ht⟩ := exec_next c s
  obtain ⟨u, hquiet, hcore⟩ := exec_reach ht
  exact ⟨t, ht, hcore.pending_eq.trans hquiet.pending⟩

/-- Settles O1: `step` looks at the front of the queue first. -/
theorem stepTakesFrontCommand : Obligations.StepTakesFrontCommand := by
  intro c rest s hpending
  rw [step, hpending]

end Sys2Proof.Machine
end

section
/-! SUPPORT. The Route Store and its controller: what each store operation leaves in the slots and marks, what a launch has checked, and
that every step keeps launched work sound. -/

namespace Sys2Proof.Machine

/-! ## Slots and marks -/

/-- A slot after one slot was given another state. -/
theorem RouteStore.slot_setSlot (r : RouteStore) (k i : Byte) (x : Slot) :
    RouteStore.slot { r with slots := r.slots.set k.toFin x } i = if i = k then x else r.slot i := by
  simp only [RouteStore.slot, Fin.getElem_fin, Vector.getElem_set, BitVec.val_toFin]
  by_cases h : i = k
  · subst h; simp
  · rw [if_neg h, if_neg (fun e => h (BitVec.eq_of_toNat_eq e.symm))]

/-- A slot after the erase of a segment (R135, R136). -/
theorem RouteStore.slot_eraseSegment (r : RouteStore) (g : Segment) (i : Byte) :
    (r.eraseSegment g).slot i = if segmentOfSlot i = g then .blank else r.slot i := by
  simp [RouteStore.slot, RouteStore.eraseSegment]

theorem Vector.getElem_set_segment {α : Type} (v : Vector α 16) (g h : Segment) (x : α) :
    (v.set g x)[h] = if h = g then x else v[h] := by
  simp only [Fin.getElem_fin, Vector.getElem_set]
  by_cases e : h = g
  · simp [e]
  · rw [if_neg e, if_neg (fun k => e (Fin.ext k.symm))]

theorem boundaryProtects_some (b g : Segment) : boundaryProtects (some b) g = decide (b ≤ g) := rfl

/-! ## What interrupted work leaves (R138) -/

/-- A slot after a reset: TORN where a PROGRAM or RETIRE worked on it, else as it was. -/
theorem abortWork_slot (c : StoreController) (r : RouteStore) (i : Byte) :
    (abortWork r c.running).slot i = if c.runningSlotWork.map SlotWork.target = some i then .torn else r.slot i := by
  unfold abortWork StoreController.runningSlotWork
  cases c.running with
  | none => simp
  | some run =>
    obtain ⟨work, start, since, continued⟩ := run
    cases work with
    | slot w =>
      simp only [Option.map_some, Option.some.injEq]
      rw [RouteStore.slot_setSlot]
      simp only [eq_comm]
    | eraseSegment g | eraseAll _ g | wipe _ g => simp [RouteStore.slot]
    | blankCheck target => simp

/-- A mark after a reset: lost where its segment was being erased, else as it was. -/
theorem abortWork_marks (c : StoreController) (r : RouteStore) (g : Segment)
    (h : ∀ run ∈ c.running, run.work.segment ≠ some g) : (abortWork r c.running).marks[g] = r.marks[g] := by
  unfold abortWork
  cases hrun : c.running with
  | none => rfl
  | some run =>
    obtain ⟨work, start, since, continued⟩ := run
    have hne := h _ hrun
    cases work with
    | slot w | blankCheck target => rfl
    | eraseSegment k | eraseAll _ k | wipe _ k =>
      have hk : ¬ g = k := fun e => hne (by simp [Work.segment, e])
      simp only [Vector.getElem_set_segment]
      rw [if_neg hk]

/-! ## The controller's work in hand -/

theorem runningSlotWork_slot {c : StoreController} {w : SlotWork} {start since : Nat} {continued : Bool}
    (h : c.running = some ⟨.slot w, start, since, continued⟩) : c.runningSlotWork = some w := by
  simp [StoreController.runningSlotWork, h]

/-- Behind anything but a PROGRAM or RETIRE nothing waits, and no segment is open (R121, R132). -/
theorem StoreController.Legal.alone {c : StoreController} (h : c.Legal) (hnone : c.runningSlotWork = none) :
    c.waiting = none ∧ c.openSegment = none := by
  obtain ⟨hopen, hwaiting⟩ := h
  refine ⟨?_, by rw [hopen, hnone]; rfl⟩
  cases hw : c.waiting with
  | none => rfl
  | some w =>
    obtain ⟨-, r, hr, -⟩ := hwaiting w hw
    rw [hnone] at hr
    cases hr

theorem runningSlotWork_none {c : StoreController} (h : c.running = none) : c.runningSlotWork = none := by
  simp [StoreController.runningSlotWork, h]

/-- What the soundness of a launched PROGRAM or RETIRE speaks of: the boundary, its slot and its segment's mark. -/
theorem SlotWork.Sound.congr {s t : State} {w : SlotWork} (h : w.Sound s) (hboundary : t.ctrl.boundary = s.ctrl.boundary)
    (hslot : t.store.slot w.target = s.store.slot w.target) (hmark : t.store.marks[w.segment] = s.store.marks[w.segment]) :
    w.Sound t := by
  obtain ⟨hunprotected, hmarked, hstate⟩ := h
  refine ⟨by rw [hboundary]; exact hunprotected, by rw [hmark]; exact hmarked, ?_⟩
  cases w with
  | program slot image => exact ⟨hslot.trans hstate.1, hstate.2⟩
  | retire slot =>
    obtain ⟨hroute, image, himage⟩ := hstate
    exact ⟨hroute, image, hslot.trans himage⟩

theorem Work.Sound.congr {s t : State} {w : Work} (h : w.Sound s) (hboundary : t.ctrl.boundary = s.ctrl.boundary)
    (hstore : t.store = s.store) : w.Sound t := by
  cases w with
  | slot w => exact SlotWork.Sound.congr h hboundary (by rw [hstore]) (by rw [hstore])
  | eraseSegment g | eraseAll _ _ | wipe _ _ => unfold Work.Sound at h ⊢; rw [hboundary]; exact h
  | blankCheck target => trivial

/-- The soundness of an erase or a BLANK CHECK speaks of the boundary alone. -/
theorem Work.Sound.congr_of_not_slotWork {s t : State} {w : Work} (h : w.Sound s) (hkind : w.isSlotWork = false)
    (hboundary : t.ctrl.boundary = s.ctrl.boundary) : w.Sound t := by
  cases w with
  | slot w => cases hkind
  | eraseSegment g | eraseAll _ _ | wipe _ _ => unfold Work.Sound at h ⊢; rw [hboundary]; exact h
  | blankCheck target => trivial

/-- Running work does not reach a protected segment (R127, R136). -/
theorem Work.Sound.segment_unprotected {s : State} {w : Work} (h : w.Sound s) {g : Segment} (hg : w.segment = some g) :
    boundaryProtects s.ctrl.boundary g = false := by
  cases w with
  | slot w =>
    obtain rfl : w.segment = g := Option.some.inj hg
    exact h.1
  | eraseSegment k =>
    obtain rfl : k = g := Option.some.inj hg
    exact h
  | eraseAll _ k | wipe _ k =>
    have h' : s.ctrl.boundary = none := h
    rw [h']
    rfl
  | blankCheck target => cases hg

/-- The conditions on the store speak of the store, the controller and the phase alone. -/
theorem StoreRight.congr {s t : State} (h : StoreRight s) (hctrl : t.ctrl = s.ctrl) (hstore : t.store = s.store)
    (hphase : t.phase = s.phase) : StoreRight t := by
  obtain ⟨hlegal, hrunning, hwaiting, hslots, hquarantine⟩ := h
  unfold StoreRight
  rw [hctrl, hstore, hphase]
  exact ⟨hlegal, fun r hr => (hrunning r hr).congr (by rw [hctrl]) hstore,
    fun w hw => (hwaiting w hw).congr (by rw [hctrl]) (by rw [hstore]) (by rw [hstore]), hslots, hquarantine⟩

theorem Quiet.storeRight {s t : State} (h : Quiet s t) (hs : StoreRight s) : StoreRight t :=
  hs.congr h.ctrl h.store h.phase

/-! ## What a reset and a start-up leave -/

theorem storeRight_enterReset {s : State} (h : StoreRight s) (cause : Cause) : StoreRight (enterReset cause s) := by
  obtain ⟨-, -, -, hslots, -⟩ := h
  refine ⟨⟨rfl, fun _ hw => by cases hw⟩, fun _ hr => (by cases hr), fun _ hw => (by cases hw), fun i => ?_, fun hp => by cases hp⟩
  show slotRight i ((abortWork s.store s.ctrl.running).slot i)
  rw [abortWork_slot]
  split
  · trivial
  · exact hslots i

theorem storeRight_startUp {s : State} (h : StoreRight s) (straps : Straps) : StoreRight (startUp straps s) := by
  obtain ⟨-, -, -, hslots, -⟩ := h
  refine ⟨⟨rfl, fun _ hw => by cases hw⟩, fun _ hr => (by cases hr), fun _ hw => (by cases hw), hslots, fun _ g => ?_⟩
  show (s.store.marks.map (!·))[g] = !s.store.marks[g]
  simp

/-! ## The launch of an operation -/

/-- What an EXECUTE that passes its nine checks has found (R123 to R127). -/
structure Launchable (s : State) (o : Operation) (st : Staged) (w : Work) : Prop where
  staged : s.ctrl.staged = some st
  behind : mayLaunchBehind o s.ctrl.running = true
  work : workOf o st = some w
  format : formatPasses w = true
  slotState : slotStatePasses s w = true
  unprotected : protectionPasses s.ctrl.boundary w = true

theorem launchable_of_launchChecks {s : State} {ingress : Port} {operation echo : Byte} {w : Work}
    (h : launchChecks ingress operation echo s = .ok w) : ∃ o st, Launchable s o st w := by
  unfold launchChecks at h
  split at h
  · cases h
  · next st hst =>
    split at h
    · cases h
    · next o _ =>
      split at h; · cases h
      split at h; · cases h
      split at h; · cases h
      next hbehind =>
      split at h
      · cases h
      · next work hwork =>
        split at h; · cases h
        next hformat =>
        split at h; · cases h
        next hslot =>
        split at h; · cases h
        next hprotect =>
        cases h
        exact ⟨o, st, hst, by simpa using hbehind, hwork, by simpa using hformat, by simpa using hslot, by simpa using hprotect⟩

/-- A slot that reads BLANK or WRITTEN is in no QUARANTINED segment (R91). -/
theorem readSlot_ne_torn {s : State} {slot : Byte} (h : s.readSlot slot ≠ .torn) :
    s.ctrl.quarantined[segmentOfSlot slot] = false ∧ s.readSlot slot = s.store.slot slot := by
  unfold State.readSlot at h ⊢
  split at h
  · exact absurd rfl h
  · next hq => exact ⟨by simpa using hq, if_neg hq⟩

/-- A PROGRAM or RETIRE that passes its checks is sound, and works on another slot than the one that runs (R124 to R127). -/
theorem Launchable.sound {s : State} {o : Operation} {st : Staged} {w : SlotWork} (h : Launchable s o st (.slot w))
    (hquarantine : ∀ g : Segment, s.ctrl.quarantined[g] = !s.store.marks[g]) :
    w.Sound s ∧ worksOnSlot w.target s.ctrl.running = false := by
  have hprotect : boundaryProtects s.ctrl.boundary w.segment = false := by simpa [protectionPasses] using h.unprotected
  have hmark (hread : s.readSlot w.target ≠ .torn) : s.store.marks[w.segment] = true := by
    have hq := (readSlot_ne_torn hread).1
    rw [hquarantine, Bool.not_eq_false'] at hq
    exact hq
  cases w with
  | program slot image =>
    have hslot := h.slotState
    simp only [slotStatePasses, Bool.and_eq_true, Bool.not_eq_true'] at hslot
    obtain ⟨hread, hother⟩ := hslot
    have hblank : s.readSlot slot = .blank := by
      cases hr : s.readSlot slot <;> simp [hr] at hread ⊢
    have hne : s.readSlot slot ≠ .torn := by rw [hblank]; exact fun h => by cases h
    exact ⟨⟨hprotect, hmark hne, (readSlot_ne_torn hne).2.symm.trans hblank, h.format⟩, hother⟩
  | retire slot =>
    have hslot := h.slotState
    simp only [slotStatePasses, Bool.and_eq_true, Bool.not_eq_true'] at hslot
    obtain ⟨hread, hother⟩ := hslot
    obtain ⟨image, hwritten⟩ : ∃ image, s.readSlot slot = .written image := by
      cases hr : s.readSlot slot <;> simp [hr] at hread ⊢
    have hne : s.readSlot slot ≠ .torn := by rw [hwritten]; exact fun h => by cases h
    exact ⟨⟨hprotect, hmark hne, by simpa [formatPasses] using h.format, image, (readSlot_ne_torn hne).2.symm.trans hwritten⟩, hother⟩

/-- What runs ahead of a launch is a PROGRAM or RETIRE, and so is what is launched (R123, check 5). -/
theorem Launchable.slotWork_behind {s : State} {o : Operation} {st : Staged} {w : Work} (h : Launchable s o st w) {r : Running}
    (hr : s.ctrl.running = some r) : (∃ v, w = .slot v) ∧ ∃ v, r.work = .slot v := by
  have hbehind := h.behind
  rw [hr] at hbehind
  simp only [mayLaunchBehind, Bool.and_eq_true] at hbehind
  obtain ⟨ho, hwork⟩ := hbehind
  refine ⟨?_, ?_⟩
  · have hw := h.work
    cases o with
    | program =>
      simp only [workOf, Option.map_eq_some_iff] at hw
      obtain ⟨i, -, rfl⟩ := hw
      exact ⟨_, rfl⟩
    | retire => exact ⟨_, (Option.some.inj hw).symm⟩
    | eraseSegment | eraseAll | wipe | blankCheck => cases ho
  · cases hk : r.work with
    | slot v => exact ⟨v, rfl⟩
    | eraseSegment _ | eraseAll _ _ | wipe _ _ | blankCheck _ => rw [hk] at hwork; cases hwork

theorem worksOnSlot_slot (slot : Byte) (w : SlotWork) (start since : Nat) (continued : Bool) :
    worksOnSlot slot (some ⟨.slot w, start, since, continued⟩) = decide (w.target = slot) := rfl

/-- A launch keeps the controller and its work in order (R121, R124 to R128). -/
theorem storeRight_launch {s : State} {o : Operation} {st : Staged} {w : Work} (h : StoreRight s) (hs : s.phase = .started)
    (hw : Launchable s o st w) : StoreRight { s with ctrl := launch s.clock w s.ctrl } := by
  obtain ⟨hlegal, hrunning, hwaiting, hslots, hquarantine⟩ := h
  cases hrun : s.ctrl.running with
  | some r =>
    obtain ⟨⟨v, rfl⟩, u, hu⟩ := hw.slotWork_behind hrun
    obtain ⟨work, start, since, continued⟩ := r
    obtain rfl : work = .slot u := hu
    obtain ⟨hsound, hother⟩ := hw.sound (hquarantine hs)
    rw [hrun, worksOnSlot_slot, decide_eq_false_iff_not] at hother
    have hlaunch : launch s.clock (.slot v) s.ctrl = { s.ctrl with staged := none, waiting := some v } := by
      simp [launch, hrun]
    rw [hlaunch]
    refine ⟨⟨hlegal.1, fun x hx => ⟨rfl, u, runningSlotWork_slot hrun, ?_⟩⟩, fun r hr => (hrunning r hr).congr rfl rfl, fun x hx => ?_,
      hslots, hquarantine⟩
    · cases hx; exact hother
    · cases hx; exact hsound.congr rfl rfl rfl
  | none =>
    obtain ⟨hnone, hopen⟩ := hlegal.alone (runningSlotWork_none hrun)
    have hlaunch : launch s.clock w s.ctrl = startAtLaunch s.clock w { s.ctrl with staged := none } := by
      simp [launch, hrun]
    rw [hlaunch]
    have hwaits (c : StoreController) (hc : c.waiting = none) {P : SlotWork → Prop} : ∀ x ∈ c.waiting, P x := by simp [hc]
    cases w with
    | slot v =>
      obtain ⟨hsound, -⟩ := hw.sound (hquarantine hs)
      refine ⟨⟨rfl, hwaits _ hnone⟩, fun r hr => ?_, hwaits _ hnone, hslots, hquarantine⟩
      cases hr; exact hsound.congr rfl rfl rfl
    | eraseSegment g =>
      refine ⟨⟨hopen, hwaits _ hnone⟩, fun r hr => ?_, hwaits _ hnone, hslots, hquarantine⟩
      cases hr
      have hfree : boundaryProtects s.ctrl.boundary g = false := by simpa [protectionPasses] using hw.unprotected
      exact hfree
    | eraseAll target g =>
      refine ⟨⟨hopen, hwaits _ hnone⟩, fun r hr => ?_, hwaits _ hnone, hslots, hquarantine⟩
      cases hr
      have hfree : s.ctrl.boundary = none := by simpa [protectionPasses] using hw.unprotected
      exact hfree
    | wipe target g =>
      refine ⟨⟨hopen, hwaits _ hnone⟩, fun r hr => ?_, hwaits _ hnone, hslots, hquarantine⟩
      cases hr; rfl
    | blankCheck target =>
      refine ⟨⟨hopen, hwaits _ hnone⟩, fun r hr => ?_, hwaits _ hnone, hslots, hquarantine⟩
      cases hr; trivial

/-! ## The store commands -/

/-- A controller that differs in its flags and its staged record alone, and with an operation waiting has none staged. -/
theorem storeRight_flags {s : State} {c : StoreController} (h : StoreRight s) (hrunning : c.running = s.ctrl.running)
    (hwaiting : c.waiting = s.ctrl.waiting) (hopen : c.openSegment = s.ctrl.openSegment) (hboundary : c.boundary = s.ctrl.boundary)
    (hquarantined : c.quarantined = s.ctrl.quarantined) (hstaged : c.waiting ≠ none → c.staged = none) :
    StoreRight { s with ctrl := c } := by
  obtain ⟨hlegal, hsound, hsoundWaiting, hslots, hquarantine⟩ := h
  have hslotWork : c.runningSlotWork = s.ctrl.runningSlotWork := by simp only [StoreController.runningSlotWork, hrunning]
  refine ⟨⟨by rw [hslotWork, hopen]; exact hlegal.1, fun w hw => ?_⟩, fun r hr => ?_, fun w hw => ?_, hslots, fun hs g => ?_⟩
  · obtain ⟨-, hother⟩ := hlegal.2 w (hwaiting ▸ hw)
    exact ⟨hstaged (by rw [Option.mem_def.1 hw]; exact Option.some_ne_none w), by rw [hslotWork]; exact hother⟩
  · exact (hsound r (hrunning ▸ hr)).congr hboundary rfl
  · exact (hsoundWaiting w (hwaiting ▸ hw)).congr hboundary rfl rfl
  · show c.quarantined[g] = _
    rw [hquarantined]
    exact hquarantine hs g

theorem StoreController.Legal.staged_none {c : StoreController} (h : c.Legal) (hw : c.waiting ≠ none) : c.staged = none := by
  obtain ⟨w, hw⟩ := Option.ne_none_iff_exists'.1 hw
  exact (h.2 w hw).1

/-- A boundary that covers no work leaves it sound (R127). -/
theorem sound_of_not_coversWork {s : State} {b : Segment} (h : coversWork b s.ctrl = false) :
    (∀ r ∈ s.ctrl.running, r.work.Sound s → r.work.Sound { s with ctrl := { s.ctrl with boundary := some b } })
      ∧ ∀ w ∈ s.ctrl.waiting, w.Sound s → w.Sound { s with ctrl := { s.ctrl with boundary := some b } } := by
  simp only [coversWork, Bool.or_eq_false_iff] at h
  obtain ⟨hrunning, hwaiting⟩ := h
  constructor
  · intro r hr hsound
    rw [Option.mem_def.1 hr] at hrunning
    obtain ⟨work, start, since, continued⟩ := r
    cases work with
    | slot w => exact ⟨hrunning, hsound.2⟩
    | eraseSegment g => exact hrunning
    | eraseAll _ g | wipe _ g =>
      have hlast : ((List.finRange 16).any fun h => decide (g ≤ h) && decide (b ≤ h)) = true :=
        List.any_eq_true.2 ⟨15, List.mem_finRange _, by simp [Fin.le_def]; omega⟩
      exact absurd hrunning (by simp only [hlast]; exact Bool.noConfusion)
    | blankCheck target => trivial
  · intro w hw hsound
    rw [Option.mem_def.1 hw] at hwaiting
    exact ⟨hwaiting, hsound.2⟩

theorem storeRight_storeCommand {s : State} {c : StoreController} (h : StoreRight s) (hs : s.phase = .started)
    (hc : StoreCommand s c) : StoreRight { s with ctrl := c } := by
  have hstagedNone := h.1.staged_none
  cases hc with
  | stage target image =>
    unfold stageRecord
    split
    · exact h
    split
    · exact storeRight_flags h rfl rfl rfl rfl rfl hstagedNone
    · next hfree =>
      refine storeRight_flags h rfl rfl rfl rfl rfl fun hw => absurd ?_ hfree
      simp [Option.isSome_iff_ne_none.2 hw]
  | execute ingress operation echo =>
    unfold executeStore
    split
    · exact h
    split
    · next e _ => cases e <;> exact storeRight_flags h rfl rfl rfl rfl rfl fun _ => rfl
    · next w hw =>
      obtain ⟨o, st, hlaunch⟩ := launchable_of_launchChecks hw
      exact storeRight_launch h hs hlaunch
  | abortStage => exact storeRight_flags h rfl rfl rfl rfl rfl fun _ => rfl
  | clearFlags => exact storeRight_flags h rfl rfl rfl rfl rfl hstagedNone
  | raiseProtection segment =>
    unfold raiseBoundary
    split
    · exact h
    · next b _ =>
      split
      · exact h
      split
      · exact storeRight_flags h rfl rfl rfl rfl rfl hstagedNone
      · next hcovers =>
        obtain ⟨hlegal, hsound, hsoundWaiting, hslots, hquarantine⟩ := h
        obtain ⟨hrunning, hwaiting⟩ := sound_of_not_coversWork (Bool.not_eq_true _ ▸ hcovers)
        exact ⟨hlegal, fun r hr => hrunning r hr (hsound r hr), fun w hw => hwaiting w hw (hsoundWaiting w hw), hslots, hquarantine⟩

/-! ## Completions -/

/-- A completed PROGRAM or RETIRE leaves a slot fit for it, and what waited starts soundly (R132 to R134). -/
theorem storeRight_slotWorkDone {s : State} {w : SlotWork} {start since : Nat} {continued : Bool} (h : StoreRight s)
    (hrun : s.ctrl.running = some ⟨.slot w, start, since, continued⟩) (hits : Vector Count 240) {x : Slot} (hx : slotRight w.target x) :
    StoreRight { s with
      store := { s.store with slots := s.store.slots.set w.target.toFin x }, hits := hits, ctrl := startWaiting s.clock s.ctrl } := by
  obtain ⟨hlegal, -, hwaiting, hslots, hquarantine⟩ := h
  have hslotsAfter (i : Byte) : slotRight i (RouteStore.slot { s.store with slots := s.store.slots.set w.target.toFin x } i) := by
    rw [RouteStore.slot_setSlot]
    split
    · next hi => rw [hi]; exact hx
    · exact hslots i
  cases hwait : s.ctrl.waiting with
  | none =>
    have hstart : startWaiting s.clock s.ctrl = { s.ctrl with running := none, openSegment := none } := by
      simp [startWaiting, hwait]
    rw [hstart]
    exact ⟨⟨rfl, fun v hv => absurd (hwait.symm.trans hv) (by simp)⟩, fun _ hr => (by cases hr),
      fun v hv => absurd (hwait.symm.trans hv) (by simp), hslotsAfter, hquarantine⟩
  | some v =>
    have hstart : startWaiting s.clock s.ctrl = { s.ctrl with
        running := some ⟨.slot v, s.clock, s.clock, decide (s.ctrl.openSegment = some v.segment)⟩
        waiting := none, openSegment := some v.segment } := by
      simp [startWaiting, hwait]
    obtain ⟨-, u, hu, hother⟩ := hlegal.2 v hwait
    obtain rfl : w = u := Option.some.inj ((runningSlotWork_slot hrun).symm.trans hu)
    rw [hstart]
    refine ⟨⟨rfl, fun _ hv => by cases hv⟩, fun r hr => ?_, fun _ hv => (by cases hv), hslotsAfter, hquarantine⟩
    cases hr
    refine SlotWork.Sound.congr (hwaiting v hwait) rfl ?_ rfl
    rw [RouteStore.slot_setSlot, if_neg (Ne.symm hother)]

/-- What an erase changes, with what runs after it. -/
theorem segmentErased_setRunning (g : Segment) (s : State) (next : Option Running) :
    (segmentErased g s).setRunning next = { s with
      store := s.store.eraseSegment g, hits := clearHits s.hits g
      ctrl := { s.ctrl with quarantined := s.ctrl.quarantined.set g false, running := next } } := by
  simp only [State.setRunning, segmentErased]

/-- An erased segment keeps the store in order, whatever erase goes on behind it (R91, R135, R136). -/
theorem storeRight_segmentErased {s : State} (h : StoreRight s) (hnone : s.ctrl.runningSlotWork = none) (g : Segment)
    {next : Option Running} (hnext : ∀ r ∈ next, r.work.isSlotWork = false ∧ r.work.Sound s) :
    StoreRight ((segmentErased g s).setRunning next) := by
  obtain ⟨hlegal, -, -, hslots, hquarantine⟩ := h
  obtain ⟨hwaiting, hopen⟩ := hlegal.alone hnone
  have hslotWork (c : StoreController) (hc : c.running = next) : c.runningSlotWork = none := by
    unfold StoreController.runningSlotWork
    split
    · next w _ _ _ hr => exact absurd (hnext _ (hc ▸ hr)).1 (by simp [Work.isSlotWork])
    all_goals rfl
  rw [segmentErased_setRunning]
  refine ⟨⟨hopen.trans (by rw [hslotWork _ rfl]; rfl), fun w hw => absurd (hwaiting.symm.trans hw) (by simp)⟩, fun r hr => ?_,
    fun w hw => absurd (hwaiting.symm.trans hw) (by simp), fun i => ?_, fun hs k => ?_⟩
  · obtain ⟨hkind, hsound⟩ := hnext r hr
    exact hsound.congr_of_not_slotWork hkind rfl
  · show slotRight i ((s.store.eraseSegment g).slot i)
    rw [RouteStore.slot_eraseSegment]
    split
    · trivial
    · exact hslots i
  · show (s.ctrl.quarantined.set g false)[k] = !(s.store.marks.set g true)[k]
    rw [Vector.getElem_set_segment, Vector.getElem_set_segment]
    split
    · rfl
    · exact hquarantine hs k

theorem storeRight_eraseStep {s : State} (h : StoreRight s) : StoreRight (eraseStep s) := by
  unfold eraseStep
  split
  · next target g start since continued hrun =>
    refine storeRight_segmentErased h (by simp [StoreController.runningSlotWork, hrun]) g fun r hr => ?_
    obtain ⟨k, -, rfl⟩ := Option.map_eq_some_iff.1 hr
    have hfree : s.ctrl.boundary = none := h.2.1 _ hrun
    exact ⟨rfl, hfree⟩
  · next target g start since continued hrun =>
    refine storeRight_segmentErased h (by simp [StoreController.runningSlotWork, hrun]) g fun r hr => ?_
    obtain ⟨k, -, rfl⟩ := Option.map_eq_some_iff.1 hr
    have hfree : s.ctrl.boundary = none := h.2.1 _ hrun
    exact ⟨rfl, hfree⟩
  · exact h

theorem storeRight_eraseSegmentCompletes {s : State} (h : StoreRight s) : StoreRight (eraseSegmentCompletes s) := by
  unfold eraseSegmentCompletes
  split
  · next g start since continued hrun =>
    exact storeRight_segmentErased h (by simp [StoreController.runningSlotWork, hrun]) g fun _ hr => by cases hr
  · exact h

theorem storeRight_programCompletes {s : State} (h : StoreRight s) : StoreRight (programCompletes s) := by
  unfold programCompletes
  split
  · next slot image start since continued hrun =>
    obtain ⟨-, -, -, hsuits⟩ := h.2.1 _ hrun
    exact storeRight_slotWorkDone h hrun _ (x := .written image) hsuits
  · exact h

/-- A RETIRE finds its slot WRITTEN, so that it leaves it RETIRED with its record (R124, R134). -/
theorem retire_slot_eq {s : State} {slot : Byte} (h : (SlotWork.retire slot).Sound s) :
    ∃ image, s.store.slot slot = .written image ∧ (s.store.slot slot).retire = .retired image := by
  obtain ⟨-, -, -, image, himage⟩ := h
  exact ⟨image, himage, by rw [himage]; rfl⟩

theorem storeRight_retireCompletes {s : State} (h : StoreRight s) : StoreRight (retireCompletes s) := by
  unfold retireCompletes
  split
  · next slot start since continued hrun =>
    have hsound : (SlotWork.retire slot).Sound s := h.2.1 _ hrun
    obtain ⟨image, himage, hretired⟩ := retire_slot_eq hsound
    have hsuits : imageSuits slot image = true := by
      have := h.2.2.2.1 slot
      rwa [himage] at this
    refine storeRight_slotWorkDone h hrun s.hits (x := (s.store.slot slot).retire) ?_
    rw [hretired]
    exact ⟨hsound.2.2.1, hsuits⟩
  · exact h

theorem storeRight_blankCheckCompletes {s : State} (h : StoreRight s) : StoreRight (blankCheckCompletes s) := by
  unfold blankCheckCompletes
  split
  · next target start since continued hrun =>
    obtain ⟨hlegal, -, -, hslots, hquarantine⟩ := h
    obtain ⟨hwaiting, hopen⟩ := hlegal.alone (by simp [StoreController.runningSlotWork, hrun])
    exact ⟨⟨hopen, fun w hw => absurd (hwaiting.symm.trans hw) (by simp)⟩, fun _ hr => (by cases hr),
      fun w hw => absurd (hwaiting.symm.trans hw) (by simp), hslots, hquarantine⟩
  · exact h

/-! ## Every step -/

theorem CoreStep.storeRight {s t : State} (hs : StoreRight s) (h : CoreStep s t) : StoreRight t := by
  cases h with
  | quiet h => exact h.storeRight hs
  | reset cause h => exact h ▸ storeRight_enterReset hs cause
  | startUp straps _ h => exact h ▸ storeRight_startUp hs straps
  | store ctrl hphase hctrl h => exact h.storeRight (storeRight_storeCommand hs hphase hctrl)
  | unlock code h => exact h.storeRight (hs.congr rfl rfl rfl)
  | restart _ h => exact h.storeRight (hs.congr rfl rfl rfl)
  | programCompletion _ h => exact h ▸ storeRight_programCompletes hs
  | retireCompletion _ h => exact h ▸ storeRight_retireCompletes hs
  | eraseSegmentCompletion _ h => exact h ▸ storeRight_eraseSegmentCompletes hs
  | segmentEraseStep _ h => exact h ▸ storeRight_eraseStep hs
  | blankCheckCompletion _ h => exact h ▸ storeRight_blankCheckCompletes hs

/-- Settles O59: whatever a step comes to behind the lines keeps the store and its controller in order. -/
theorem stepKeepsStoreRight : Obligations.StepKeepsStoreRight := by
  intro s t hs h
  refine step_keeps (P := StoreRight) (fun _ _ hs => hs.congr rfl rfl rfl) (fun _ hs => hs.congr rfl rfl rfl) ?_ hs h
  intro c s t hs hc
  obtain ⟨u, hquiet, hcore⟩ := exec_reach hc
  exact hcore.storeRight (hquiet.storeRight hs)

/-! ## What a step changes in the store -/

/-- What a completed PROGRAM or RETIRE leaves in its slot (R133, R134). -/
def SlotWork.result (r : RouteStore) : SlotWork → Slot
  | .program _ image => .written image
  | .retire slot => (r.slot slot).retire

/-- What a step can make of the slots and marks: nothing, a PROGRAM or RETIRE done, a segment erased, or what a reset leaves of the
work in hand (R89 to R91, R133 to R138). -/
inductive StoreChange (s t : State) : Prop
  | none (h : t.store = s.store)
  | slotWorkDone (w : SlotWork) (start since : Nat) (continued : Bool)
      (hrun : s.ctrl.running = some ⟨.slot w, start, since, continued⟩)
      (h : t.store = { s.store with slots := s.store.slots.set w.target.toFin (w.result s.store) })
  | erased (g : Segment) (r : Running) (hrun : s.ctrl.running = some r) (hg : r.work.segment = some g)
      (h : t.store = s.store.eraseSegment g)
  | torn (hphase : t.phase = .inReset) (h : t.store = abortWork s.store s.ctrl.running)

theorem CoreStep.storeChange {s t : State} (h : CoreStep s t) : StoreChange s t := by
  cases h with
  | quiet h => exact .none h.store
  | reset cause h => subst h; exact .torn rfl rfl
  | startUp straps _ h => subst h; exact .none rfl
  | store ctrl _ _ h | unlock code h | restart _ h => exact .none h.store
  | programCompletion _ h =>
    subst h
    unfold programCompletes
    split
    · next hrun => exact .slotWorkDone _ _ _ _ hrun rfl
    · exact .none rfl
  | retireCompletion _ h =>
    subst h
    unfold retireCompletes
    split
    · next hrun => exact .slotWorkDone _ _ _ _ hrun rfl
    · exact .none rfl
  | eraseSegmentCompletion _ h =>
    subst h
    unfold eraseSegmentCompletes
    split
    · next g _ _ _ hrun => exact .erased g _ hrun rfl rfl
    · exact .none rfl
  | segmentEraseStep _ h =>
    subst h
    unfold eraseStep
    split
    · next g _ _ _ hrun => exact .erased g _ hrun rfl rfl
    · next g _ _ _ hrun => exact .erased g _ hrun rfl rfl
    · exact .none rfl
  | blankCheckCompletion _ h =>
    subst h
    unfold blankCheckCompletes
    split <;> exact .none rfl

/-- A step's change of the store, from the state it begins in. -/
theorem step_storeChange {s t : State} (h : step s = .next t) : StoreChange s t := by
  rcases step_reach h with rfl | ⟨rest, u, hquiet, hcore⟩
  · exact .none rfl
  · have hstore : u.store = s.store := hquiet.store
    have hctrl : u.ctrl = s.ctrl := hquiet.ctrl
    cases hcore.storeChange with
    | none h => exact .none (h.trans hstore)
    | slotWorkDone w _ _ _ hrun h => exact .slotWorkDone w _ _ _ (hctrl ▸ hrun) (hstore ▸ h)
    | erased g r hrun hg h => exact .erased g r (hctrl ▸ hrun) hg (hstore ▸ h)
    | torn hphase h => exact .torn hphase (by rw [h, hstore, hctrl])

/-- Settles O51: what runs is sound, so that its segment is not protected, and no step changes a slot or a mark of another segment. -/
theorem protectedSegmentsAreKept : Obligations.ProtectedSegmentsAreKept := by
  intro s t b hs hboundary h i hi
  obtain ⟨-, hsound, -⟩ := hs
  have hfree {r : Running} (hr : s.ctrl.running = some r) : r.work.segment ≠ some (segmentOfSlot i) := by
    intro hg
    have := (hsound r hr).segment_unprotected hg
    rw [hboundary, boundaryProtects_some, decide_eq_false_iff_not] at this
    exact this hi
  cases step_storeChange h with
  | none h => rw [h]; exact ⟨rfl, rfl⟩
  | slotWorkDone w _ _ _ hrun h =>
    have hne : i ≠ w.target := fun e => hfree hrun (by rw [e]; rfl)
    rw [h, RouteStore.slot_setSlot, if_neg hne]
    exact ⟨rfl, rfl⟩
  | erased g r hrun hg h =>
    have hne : segmentOfSlot i ≠ g := fun e => hfree hrun (by rw [hg, e])
    rw [h, RouteStore.slot_eraseSegment, if_neg hne]
    exact ⟨rfl, by rw [RouteStore.eraseSegment, Vector.getElem_set_segment, if_neg hne]⟩
  | torn _ h =>
    rw [h, abortWork_slot, abortWork_marks s.ctrl s.store _ fun r hr => hfree hr]
    refine ⟨if_neg ?_, rfl⟩
    intro htarget
    obtain ⟨w, hw, rfl⟩ := Option.map_eq_some_iff.1 htarget
    unfold StoreController.runningSlotWork at hw
    split at hw
    · next hrun => cases hw; exact hfree hrun rfl
    all_goals cases hw

/-- Settles O52: launched work has found its slot in the state it needs, so that each way of changing a slot is one of those of R89. -/
theorem slotsPassOneWay : Obligations.SlotsPassOneWay := by
  intro s t i hs h
  obtain ⟨-, hsound, -⟩ := hs
  cases step_storeChange h with
  | none h => exact .inl (by rw [h])
  | slotWorkDone w _ _ _ hrun h =>
    have hw : w.Sound s := hsound _ hrun
    rw [h, RouteStore.slot_setSlot]
    by_cases hi : i = w.target
    · subst hi
      rw [if_pos rfl]
      cases w with
      | program slot image => exact .inr (.inl ⟨hw.2.2.1, image, rfl, hw.2.2.2⟩)
      | retire slot =>
        obtain ⟨image, himage, hretired⟩ := retire_slot_eq hw
        exact .inr (.inr (.inl ⟨image, himage, hretired⟩))
    · exact .inl (if_neg hi)
  | erased g r hrun hg h =>
    rw [h]
    by_cases hi : segmentOfSlot i = g
    · refine .inr (.inr (.inr (.inr ⟨?_, fun j hj => ?_⟩)))
      · rw [RouteStore.eraseSegment, Vector.getElem_set_segment, if_pos hi]
      · rw [RouteStore.slot_eraseSegment, if_pos (hj.trans hi)]
    · exact .inl (by rw [RouteStore.slot_eraseSegment, if_neg hi])
  | torn hphase h =>
    rw [h, abortWork_slot]
    split
    · next htarget =>
      obtain ⟨w, hw, hi⟩ := Option.map_eq_some_iff.1 htarget
      refine .inr (.inr (.inr (.inl ⟨rfl, hphase, ⟨w, hw, hi⟩, ?_⟩)))
      have hw' : w.Sound s := by
        unfold StoreController.runningSlotWork at hw
        split at hw
        · next hrun => cases hw; exact hsound _ hrun
        all_goals cases hw
      subst hi
      cases w with
      | program slot image => exact .inl hw'.2.2.1
      | retire slot => exact .inr hw'.2.2.2
    · exact .inl rfl

end Sys2Proof.Machine
end

section
/-! SUPPORT. Resets, start-up and the access level; the completions at the Store Controller, each as its own row. -/

namespace Sys2Proof.Machine

/-! ## The access level (R147) -/

theorem AccessRight.congr {s t : State} (hs : AccessRight s) (hfailed : t.mgmt.failed = s.mgmt.failed)
    (hlevel : t.mgmt.level = s.mgmt.level) (hcode : t.mgmt.code = s.mgmt.code) (hmark : t.mgmt.restartMark = s.mgmt.restartMark) :
    AccessRight t := by
  unfold AccessRight
  rw [hfailed, hlevel, hcode, hmark]
  exact hs

theorem Quiet.accessRight {s t : State} (h : Quiet s t) (hs : AccessRight s) : AccessRight t :=
  hs.congr h.failed h.level h.code h.restartMark

theorem accessRight_managementReset {s : State} {code : Option AccessCode} (h : s.mgmt = ManagementUnit.reset code) :
    AccessRight s := by
  unfold AccessRight
  rw [h]
  refine ⟨Nat.zero_le 3, fun hlevel => ?_, fun hmark => Bool.noConfusion hmark⟩
  cases code with
  | none => cases hlevel
  | some _ => rfl

theorem level_cases : ∀ level : AccessLevel, level = .locked ∨ level = .open
  | .locked => .inl rfl
  | .open => .inr rfl

/-- UNLOCK keeps the access state in order, and an OPEN bridge OPEN (R148). -/
theorem accessRight_unlockUnit {s : State} (hs : AccessRight s) (code : AccessCode) :
    AccessRight { s with mgmt := (unlockUnit code s.mgmt).2 }
      ∧ (s.mgmt.level = .open → (unlockUnit code s.mgmt).2.level = .open) := by
  by_cases hfailed : 3 ≤ s.mgmt.failed
  · rw [unlockUnit_barred hfailed]
    exact ⟨hs, id⟩
  · rw [not_le] at hfailed
    rcases level_cases s.mgmt.level with hlevel | hlevel
    · obtain ⟨-, hcode, hmark⟩ := hs
      rw [hlevel] at hcode hmark
      rw [unlockUnit_locked hfailed hlevel, hlevel]
      split
      · exact ⟨⟨hfailed.le, fun h => (by cases h), fun _ => rfl⟩, fun h => by cases h⟩
      · exact ⟨⟨hfailed, hcode, hmark⟩, fun h => by cases h⟩
    · rw [unlockUnit_open hfailed hlevel]
      exact ⟨hs, fun _ => hlevel⟩

theorem blankCheckCompletes_mgmt (s : State) :
    (blankCheckCompletes s).mgmt = s.mgmt ∨ (blankCheckCompletes s).mgmt = { s.mgmt with level := .open } := by
  unfold blankCheckCompletes
  split
  · dsimp only
    split
    · exact .inr rfl
    · exact .inl rfl
  · exact .inl rfl

theorem programCompletes_mgmt (s : State) : (programCompletes s).mgmt = s.mgmt := by
  unfold programCompletes; split <;> rfl

theorem retireCompletes_mgmt (s : State) : (retireCompletes s).mgmt = s.mgmt := by
  unfold retireCompletes; split <;> rfl

theorem eraseSegmentCompletes_mgmt (s : State) : (eraseSegmentCompletes s).mgmt = s.mgmt := by
  unfold eraseSegmentCompletes; split <;> simp only [segmentErased_setRunning]

theorem eraseStep_mgmt (s : State) : (eraseStep s).mgmt = s.mgmt := by
  unfold eraseStep; split <;> simp only [segmentErased_setRunning]

theorem AccessRight.of_mgmt {s t : State} (hs : AccessRight s) (h : t.mgmt = s.mgmt) : AccessRight t := by
  unfold AccessRight
  rw [h]
  exact hs

/-- What a row keeps of the access state. -/
theorem CoreStep.accessRight {s t : State} (hs : AccessRight s) (h : CoreStep s t) :
    AccessRight t ∧ (s.phase = .started → t.phase = .started → s.mgmt.level = .open → t.mgmt.level = .open) := by
  have unchanged (h : t.mgmt = s.mgmt) :
      AccessRight t ∧ (s.phase = .started → t.phase = .started → s.mgmt.level = .open → t.mgmt.level = .open) :=
    ⟨hs.of_mgmt h, fun _ _ hopen => by rw [h]; exact hopen⟩
  cases h with
  | quiet h => exact ⟨h.accessRight hs, fun _ _ hopen => h.level.trans hopen⟩
  | reset cause h =>
    subst h
    exact ⟨accessRight_managementReset (code := none) rfl, fun _ hphase => by cases hphase⟩
  | startUp straps hphase h =>
    subst h
    exact ⟨accessRight_managementReset rfl, fun hs => by rw [hphase] at hs; cases hs⟩
  | store ctrl _ _ h => exact ⟨h.accessRight (hs.of_mgmt rfl), fun _ _ hopen => h.level.trans hopen⟩
  | unlock code h =>
    obtain ⟨hright, hstays⟩ := accessRight_unlockUnit hs code
    exact ⟨h.accessRight hright, fun _ _ hopen => h.level.trans (hstays hopen)⟩
  | restart hopen h =>
    exact ⟨h.accessRight ⟨hs.1, hs.2.1, fun _ => hopen⟩, fun _ _ _ => h.level.trans hopen⟩
  | programCompletion _ h => exact unchanged (by rw [h, programCompletes_mgmt])
  | retireCompletion _ h => exact unchanged (by rw [h, retireCompletes_mgmt])
  | eraseSegmentCompletion _ h => exact unchanged (by rw [h, eraseSegmentCompletes_mgmt])
  | segmentEraseStep _ h => exact unchanged (by rw [h, eraseStep_mgmt])
  | blankCheckCompletion _ h =>
    subst h
    rcases blankCheckCompletes_mgmt s with h | h
    · exact unchanged h
    · unfold AccessRight
      rw [h]
      exact ⟨⟨hs.1, fun h => (by cases h), fun _ => rfl⟩, fun _ _ _ => rfl⟩

/-- Settles O60: read off what a step can come to behind the lines. -/
theorem stepKeepsAccessRight : Obligations.StepKeepsAccessRight := by
  intro s t hs h
  rcases step_reach h with rfl | ⟨rest, u, hquiet, hcore⟩
  · exact ⟨hs, fun _ _ hopen => hopen⟩
  · obtain ⟨hright, hstays⟩ := hcore.accessRight (hquiet.accessRight (hs.of_mgmt rfl))
    exact ⟨hright, fun hphase ht hopen => hstays (hquiet.phase.trans hphase) ht (hquiet.level.trans hopen)⟩

/-! ## RESTART -/

theorem accessPasses_open {s : State} (h : s.mgmt.level = .open) (ingress : Port) (m : MgmtCommand) :
    accessPasses s ingress m = true := by
  rw [accessPasses, h]

/-- A management row of a ready bridge that the access check lets pass: performed, its reply placed (R106, R152). -/
theorem exec_command {c : Instr} {s t : State} {ingress : Port} {source : Byte} {m : MgmtCommand} {result : Result} {data : List Byte}
    (hc : commandOf c = some (ingress, source, m)) (hs : Ready s) (hpasses : accessPasses s ingress m = true)
    (hdone : performCommand ingress m s = ⟨result, data, t⟩) (haddress : t.address = s.address := by rfl) :
    exec c s = replied ingress source m.code result data t := by
  rw [exec_of_commandOf hc, whenStarted_started hs.1, takeCommand_ready source hs.2 hpasses hdone, replied, haddress]

theorem restartDue_iff (s : State) :
    restartDue s = true ↔ s.mgmt.restartMark = true ∧ s.mgmt.reply = none ∧ s.ctrl.running = none ∧ s.ctrl.waiting = none := by
  simp [restartDue, StoreController.done, and_assoc]

/-- The row of a RESTART's reset on a started bridge (R159). -/
theorem exec_restartReset {s : State} (hs : s.phase = .started) :
    exec .restartReset s = .next (if restartDue s then enterReset .restart s else s) :=
  whenStarted_started hs

/-- Settles O47: the mark is all that the command sets, and the reset finds no work to tear. -/
theorem restartWaitsForReplyAndStore : Obligations.RestartWaitsForReplyAndStore := by
  refine ⟨fun s ingress source hs hopen => exec_command (m := .restart) rfl hs (accessPasses_open hopen ..) rfl,
    fun s hs => ⟨fun hdue => ?_, fun hdue => ?_⟩⟩
  · rw [exec_restartReset hs, if_pos ((restartDue_iff s).2 hdue)]
    obtain ⟨-, -, hrunning, -⟩ := hdue
    refine ⟨_, rfl, rfl, ?_, rfl, rfl⟩
    show abortWork s.store s.ctrl.running = s.store
    rw [hrunning]
    rfl
  · rw [exec_restartReset hs, if_neg (fun h => hdue ((restartDue_iff s).1 h))]

/-! ## Completions -/

/-- The hit counter of a slot cleared, and every other one kept (R100, R133). -/
theorem clearHit_get (hits : Vector Count 240) (slot : Byte) (k : Fin 240) :
    (clearHit hits slot)[k] = if k.val = slot.toNat then 0 else hits[k] := by
  unfold clearHit
  simp only [Fin.getElem_fin]
  split
  · rw [Vector.getElem_set]
    simp only [eq_comm]
  · rw [if_neg (by omega)]

/-- The hit counters of a segment cleared, and every other one kept (R100, R135). -/
theorem clearHits_get (hits : Vector Count 240) (g : Segment) (k : Fin 240) :
    (clearHits hits g)[k] = if k.val / 16 = g.val then 0 else hits[k] := by
  simp [clearHits]

/-- What starts when a PROGRAM or RETIRE is done (R132). -/
theorem startWaiting_cases (now : Nat) (c : StoreController) :
    (c.waiting = none → startWaiting now c = { c with running := none, openSegment := none })
      ∧ ∀ v, c.waiting = some v → startWaiting now c = { c with
          waiting := none, openSegment := some v.segment
          running := some ⟨.slot v, now, now, decide (c.openSegment = some v.segment)⟩ } := by
  refine ⟨fun h => ?_, fun v h => ?_⟩ <;> rw [startWaiting, h]

/-- Settles O48: either row writes the slot of its operation, and what waits starts. -/
theorem slotWorkCompletes : Obligations.SlotWorkCompletes := by
  rintro s start since continued w c after hs hrun (⟨slot, image, rfl, rfl, rfl⟩ | ⟨slot, image, rfl, rfl, hslot, rfl⟩)
  · obtain ⟨hnone, hsome⟩ := startWaiting_cases s.clock s.ctrl
    refine ⟨{ s with
        store := { s.store with slots := s.store.slots.set slot.toFin (.written image) }
        hits := clearHit s.hits slot, ctrl := startWaiting s.clock s.ctrl }, ?_, rfl, rfl, ?_, fun i hi => ?_, fun k => ?_, hnone, hsome⟩
    · refine (whenStarted_started hs).trans (congrArg _ ?_)
      rw [programCompletes, hrun]
    · exact (RouteStore.slot_setSlot ..).trans (if_pos rfl)
    · exact (RouteStore.slot_setSlot ..).trans (if_neg hi)
    · rw [clearHit_get]
      simp [SlotWork.target]
  · obtain ⟨hnone, hsome⟩ := startWaiting_cases s.clock s.ctrl
    refine ⟨{ s with
        store := { s.store with slots := s.store.slots.set slot.toFin (.retired image) }
        ctrl := startWaiting s.clock s.ctrl }, ?_, rfl, rfl, ?_, fun i hi => ?_, fun k => ?_, hnone, hsome⟩
    · refine (whenStarted_started hs).trans (congrArg _ ?_)
      rw [retireCompletes, hrun]
      dsimp only
      rw [hslot]
      rfl
    · exact (RouteStore.slot_setSlot ..).trans (if_pos rfl)
    · exact (RouteStore.slot_setSlot ..).trans (if_neg hi)
    · exact (if_neg (fun h => by cases h.1)).symm

/-- The segment after another (R136). -/
theorem nextSegment_cases (g : Segment) :
    (g.val = 15 → nextSegment g = none) ∧ ∀ h : Segment, h.val = g.val + 1 → nextSegment g = some h := by
  unfold nextSegment
  refine ⟨fun hg => dif_neg (by omega), fun h hh => ?_⟩
  rw [dif_pos (by omega)]
  exact congrArg some (Fin.ext hh.symm)

/-- Settles O49: every erase ends in `segmentErased`, with the rest of its operation running on. -/
theorem eraseBlanksOneSegment : Obligations.EraseBlanksOneSegment := by
  intro s start since continued work g c next hs hrun hcase
  obtain ⟨hlast, hnext⟩ := nextSegment_cases g
  have hexec : exec c s = .next ((segmentErased g s).setRunning next) := by
    rcases hcase with ⟨rfl, rfl, rfl⟩ | ⟨target, rfl, rfl, hafter⟩ | ⟨target, rfl, rfl, hafter⟩
    · refine (whenStarted_started hs).trans (congrArg _ ?_)
      rw [eraseSegmentCompletes, hrun]
    all_goals
      refine (whenStarted_started hs).trans (congrArg _ ?_)
      rw [eraseStep, hrun]
      dsimp only
      rcases hafter with ⟨h15, rfl⟩ | ⟨h, hh, rfl⟩
      · rw [hlast h15]; rfl
      · rw [hnext h hh]; rfl
  rw [segmentErased_setRunning] at hexec
  refine ⟨_, hexec, rfl, rfl, fun i => ?_, fun k => clearHits_get s.hits g k⟩
  refine (RouteStore.slot_eraseSegment ..).trans ?_
  simp only [segmentOfSlot, Fin.ext_iff]

/-- The check of the whole store (R137). -/
theorem storeIsBlank_iff (s : State) :
    storeIsBlank s = true ↔ (∀ i : Byte, s.readSlot i = .blank) ∧ ∀ g : Segment, s.store.marks[g] = true := by
  have hreads (i : Byte) : readsBlank s i = true ↔ s.readSlot i = .blank := by
    unfold readsBlank
    cases s.readSlot i <;> simp
  simp only [storeIsBlank, Bool.and_eq_true, List.all_eq_true, List.mem_finRange, forall_const, hreads]
  exact and_congr_left fun _ => ⟨fun h i => h i.toFin, fun h i => h _⟩

/-- Settles O50. -/
theorem blankCheckOpensBlankBridge : Obligations.BlankCheckOpensBlankBridge := by
  intro s target start since continued hs hrun
  have hexec : exec .blankCheckCompletion s = .next { s with
      ctrl := { s.ctrl with running := none, blankResult := if storeIsBlank s then .blank else .notBlank }
      mgmt := if storeIsBlank s then { s.mgmt with level := .open } else s.mgmt } := by
    refine (whenStarted_started hs).trans (congrArg _ ?_)
    rw [blankCheckCompletes, hrun]
  refine ⟨fun hblank => ?_, fun hblank => ?_⟩
  · rw [hexec, if_pos ((storeIsBlank_iff s).2 hblank), if_pos ((storeIsBlank_iff s).2 hblank)]
  · have hnot : ¬ storeIsBlank s = true := fun h => hblank ((storeIsBlank_iff s).1 h)
    rw [hexec, if_neg hnot, if_neg hnot]

/-! ## The beginning of a reset -/

/-- A port held in reset (R142; log entry 13). -/
theorem enterReset_port (cause : Cause) (s : State) (p : Port) : (enterReset cause s).port p = LinePort.inReset := PerPort.get_all ..

theorem counter_of_zero {s : State} {p : Port} (h : (s.port p).counters = Counters.zero) (k : CounterName) : s.counter p k = 0 := by
  simp [State.counter, h, Counters.read, Counters.zero]

theorem emptyPool_claim {s : State} (h : s.pool = emptyPool) (i : Fin Config.poolSize) : (s.buffer i).claim = .free := by
  simp [State.buffer, h, emptyPool]

/-- A bridge held in reset answers to no row but a cause and START_UP (R142; log entry 4). -/
theorem exec_inReset {s : State} {c : Instr} (hs : s.phase = .inReset) (hpower : c ≠ .powerOn) (hpin : c ≠ .resetPin)
    (hstart : ∀ straps, c ≠ .startUp straps) : exec c s = .next s := by
  cases c with
  | powerOn => exact absurd rfl hpower
  | resetPin => exact absurd rfl hpin
  | startUp straps => exact absurd rfl (hstart straps)
  | _ => exact whenStarted_inReset hs

/-- Settles O53: both rows begin a reset whatever the bridge does. -/
theorem asynchronousResetTearsWork : Obligations.AsynchronousResetTearsWork := by
  refine ⟨fun s c hc => ?_, fun s c hs hpower hpin hstart => exec_inReset hs hpower hpin hstart⟩
  obtain ⟨cause, hexec, hpower, hpin⟩ : ∃ cause, exec c s = .next (enterReset cause s)
      ∧ (c = .powerOn → s.record.after cause = ⟨.powerOn, 0⟩)
      ∧ (c = .resetPin → s.record.after cause = ⟨.resetPin, if s.record.count = 255 then 255 else s.record.count + 1⟩) := by
    rcases hc with rfl | rfl
    · exact ⟨.powerOn, rfl, fun _ => rfl, fun h => by cases h⟩
    · exact ⟨.resetPin, rfl, fun h => (by cases h), fun _ => rfl⟩
  have hports (p : Port) := enterReset_port cause s p
  refine ⟨_, hexec, rfl, hpower, hpin, emptyPool_claim rfl, rfl, fun p => ?ports, fun k => ?hits, rfl, rfl, rfl, rfl, rfl, rfl,
    fun hrun => ?idle, fun r hrun => ?torn⟩
  case ports =>
    exact ⟨by rw [hports]; rfl, by rw [hports]; rfl, by rw [hports]; rfl, counter_of_zero (by rw [hports]; rfl)⟩
  case hits => exact Vector.getElem_replicate ..
  case idle =>
    show abortWork s.store s.ctrl.running = s.store
    rw [hrun]
    rfl
  case torn =>
    have hstore : (enterReset cause s).store = abortWork s.store (some r) := by rw [← hrun]; rfl
    obtain ⟨work, start, since, continued⟩ := r
    cases work with
    | slot w =>
      dsimp only
      rw [hstore]
      exact ⟨(RouteStore.slot_setSlot ..).trans (if_pos rfl), rfl, fun i hi => (RouteStore.slot_setSlot ..).trans (if_neg hi)⟩
    | eraseSegment g | eraseAll _ g | wipe _ g | blankCheck target => exact hstore

/-! ## Start-up -/

/-- A port as start-up leaves it, by its profile alone (R144). -/
theorem startUp_port (straps : Straps) (s : State) (p : Port) :
    (startUp straps s).port p = LinePort.started (loadProfile s.store straps.rate p) s.clock := by
  cases p <;> rfl

/-- Settles O54: field by field, what `startUp` sets. -/
theorem startUpLoadsSettings : Obligations.StartUpLoadsSettings := by
  intro s straps hs
  have hexec : exec (.startUp straps) s = .next (startUp straps s) := by
    show Host.Outcome.next (match s.phase with
      | .inReset => startUp straps s
      | .started => s) = _
    rw [hs]
  have hcode : loadSetting s.store 242 (fun i => (decodeAccessCode i).map some) none = (configImage s.store 242).bind decodeAccessCode := by
    unfold loadSetting
    cases h : configImage s.store 242 with
    | none => rfl
    | some i => cases h : decodeAccessCode i <;> simp [h]
  refine ⟨_, hexec, rfl, rfl, rfl, rfl, rfl, rfl, fun g => ?_, rfl, rfl, hcode, ?_, rfl, rfl, rfl, rfl, rfl, rfl, rfl, rfl, rfl, rfl, rfl,
    fun p => ?_, emptyPool_claim rfl, rfl, fun k => Vector.getElem_replicate ..⟩
  · show (s.store.marks.map (!·))[g] = _
    simp
  · show (ManagementUnit.reset (loadSetting s.store 242 _ none)).level = _
    rw [hcode]
    rfl
  · rw [startUp_port]
    exact ⟨rfl, rfl, rfl, rfl, rfl, rfl, rfl, rfl, counter_of_zero (by rw [startUp_port]; rfl)⟩

end Sys2Proof.Machine
end

section
/-! SUPPORT. What a row does to the traffic of the bridge, cut into moves that each keep the traffic in order: a telegram in reception
dropped, an entry that leaves its queue, a port closed. Every row is a run of such moves; the invariants are proved of each move once. -/

namespace Sys2Proof.Machine

/-! ## What a move may change of a port beside its duties -/

/-- A receiver that is neither filling nor deaf. -/
def RxState.Listening (x : RxState) : Prop := x = .search ∨ x = .skip

/-- A receiver that fills what it filled: unchanged, without its own-capture mark, or between SEARCH and SKIP. -/
def RxKept (x y : RxState) : Prop := y = x ∨ y = x.unmarked ∨ (x.Listening ∧ y.Listening)

/-- A transmitter that sends what it sent: unchanged, or an attempt in progress marked as expired or completed. -/
def TxKept (x y : TxState) : Prop :=
  y = x ∨ ∃ a b : Attempt, a.completed = false ∧ b.entry = a.entry ∧ b.check = a.check ∧ b.character = a.character
    ∧ ((x = .arbitrating a ∧ (y = .arbitrating b ∨ y = .sending b)) ∨ (x = .sending a ∧ y = .sending b))

/-- A port whose queue, profile, pending break, reception and sending are as they were; its counters, its line's measurements, its
candidate and its probation may differ. -/
structure Tweak (x y : LinePort) : Prop where
  mode : y.mode.isOpen = x.mode.isOpen := by rfl
  rx : RxKept x.rx y.rx := by exact .inl rfl
  tx : TxKept x.tx y.tx := by exact .inl rfl
  breakPending : y.breakPending = x.breakPending := by rfl
  queue : y.queue = x.queue := by rfl
  profile : y.profile = x.profile := by rfl
  idle : y.line.idle = true → x.line.idle = true ∨ x.tx.driving = false := by exact .inl
  closed : x.mode.isOpen = false → y.candidate = x.candidate ∧ y.ownStart = x.ownStart := by exact fun _ => ⟨rfl, rfl⟩

/-- The traffic is as it was: the ports, the pool, the Classification Queue and the reply; the clock has not gone back. -/
structure SameTraffic (s t : State) : Prop where
  ports : t.ports = s.ports
  pool : t.pool = s.pool
  classQueue : t.classQueue = s.classQueue
  unit : t.mgmt.unit = s.mgmt.unit
  reply : t.mgmt.reply = s.mgmt.reply
  replyPort : t.mgmt.replyPort = s.mgmt.replyPort
  clock : s.clock ≤ t.clock

/-! ## Moves -/

/-- One move of the bridge's traffic. -/
inductive Move (s : State) : State → Prop
  /-- Nothing of the traffic. -/
  | core {t : State} (h : SameTraffic s t) : Move s t
  | tweak (p : Port) (y : LinePort) (h : Tweak (s.port p) y) : Move s (s.setPort p y)
  /-- An attempt goes on to its next character (R40). -/
  | advance (p : Port) : Move s (s.setPort p { s.port p with tx := nextCharacter s (s.port p).tx })
  /-- A telegram in reception is dropped, its buffer FREE (R29 to R33). -/
  | drop (p : Port) (r : RxRecord) (y : RxState) (hrx : (s.port p).rx = .filling r) (hy : y.Listening) :
    Move s ((s.freeBuffer r.buffer).setPort p { s.port p with rx := y })
  /-- A header takes a FREE buffer (R20, R71). -/
  | header (p : Port) (i : Fin Config.poolSize) (data : Byte) (r : RxRecord) (hrx : (s.port p).rx.Listening)
    (hfree : (s.buffer i).claim = .free) (hbuffer : r.buffer = i) (hr : r.Faithful ⟨data, 0, 0, []⟩) :
    Move s ((s.setBuffer i ⟨.filling p, ⟨data, 0, 0, []⟩⟩).setPort p { s.port p with rx := .filling r })
  /-- A character is stored (R22). -/
  | store (p : Port) (r r' : RxRecord) (t : Telegram) (hrx : (s.port p).rx = .filling r) (hbuffer : r'.buffer = r.buffer)
    (hfaithful : r.Faithful (s.buffer r.buffer).telegram → r'.Faithful t) :
    Move s ((s.setBuffer r.buffer { s.buffer r.buffer with telegram := t }).setPort p { s.port p with rx := .filling r' })
  /-- A whole telegram waits for its classification (R28). -/
  | accept (p : Port) (r : RxRecord) (hrx : (s.port p).rx = .filling r)
    (hwhole : r.Faithful (s.buffer r.buffer).telegram → (s.buffer r.buffer).telegram.Whole) :
    Move s { (s.setBuffer r.buffer { s.buffer r.buffer with claim := .waiting p }).setPort p { s.port p with rx := .search } with
      classQueue := s.classQueue ++ [r.buffer] }
  /-- The transmitter rests (R38). -/
  | rest (p : Port) (htx : (s.port p).tx ≠ .halted) : Move s (restTransmitter p s)
  /-- The entry at the head leaves its queue and the transmitter rests (R38, R49). -/
  | pop (p : Port) (htx : (s.port p).tx ≠ .halted) : Move s (restTransmitter p (removeHead p s))
  /-- The entry at the head keeps its place with a raised failed-attempt count, and the transmitter rests (R44). -/
  | retry (p : Port) (e : EgressEntry) (rest : List EgressEntry) (htx : (s.port p).tx ≠ .halted) (hqueue : (s.port p).queue = e :: rest)
    (hlimit : e.failed + 1 < (s.port p).profile.retryLimit) :
    Move s (restTransmitter p (s.setPort p { s.port p with queue := { e with failed := e.failed + 1 } :: rest }))
  /-- A transmitter in WAIT_GAP begins (R39). -/
  | begin (p : Port) (htx : (s.port p).tx = .waitGap) : Move s (beginSending p s)
  /-- A waiting entry leaves the queue from wherever it stands (R50). -/
  | expire (p : Port) (ref : BufferRef) (hmem : ref ∈ (s.port p).refs) (hsent : beingSent (s.port p) ref = false) :
    Move s (workGone p ((s.setPort p { s.port p with queue := (s.port p).queue.filter fun e => e.ref != ref }).release ref))
  /-- A break is requested (R52). -/
  | requestBreak (p : Port) (hopen : (s.port p).mode.isOpen = true) :
    Move s (workAppears p (s.setPort p { s.port p with breakPending := true }))
  /-- A reply is placed (R83). -/
  | reply (p : Port) (t : Telegram) (hunit : s.mgmt.unit = .idle) (hroom : (s.port p).hasRoom = true) (hwhole : t.Whole) :
    Move s (appendEntry p .reply { s with mgmt := { s.mgmt with unit := .replyPending, reply := some t, replyPort := some p } })
  /-- The buffer at the head of the Classification Queue is FREE after its classification (R98, R105, R117). -/
  | discard (i : Fin Config.poolSize) (rest : List (Fin Config.poolSize)) (ingress : Port) (hqueue : s.classQueue = i :: rest)
    (hclaim : (s.buffer i).claim = .waiting ingress) : Move s (State.freeBuffer { s with classQueue := rest } i)
  /-- The buffer at the head of the Classification Queue is placed on the ports of a set (R80, R81). -/
  | forward (i : Fin Config.poolSize) (rest : List (Fin Config.poolSize)) (ingress : Port) (t : Telegram) (set : PortSet)
    (hqueue : s.classQueue = i :: rest) (hclaim : (s.buffer i).claim = .waiting ingress) (hset : set.get ingress = false)
    (hcontrol : t.control = (s.buffer i).telegram.control)
    (hpayload : t.payload.length = (s.buffer i).telegram.payload.length) :
    Move s (enqueue i ingress t set { s with classQueue := rest })
  /-- A buffer in the Classification Queue that is not WAITING, as none is. -/
  | astray (i : Fin Config.poolSize) (rest : List (Fin Config.poolSize)) (hqueue : s.classQueue = i :: rest)
    (hclaim : ∀ ingress, (s.buffer i).claim ≠ .waiting ingress) : Move s { s with classQueue := rest }
  | close (p : Port) (mode : PortMode) (hopen : (s.port p).mode.isOpen = true) (hmode : mode.isOpen = false) :
    Move s (closePort p mode s)
  | opens (p : Port) (mode : PortMode) (hclosed : (s.port p).mode.isOpen = false) (hmode : mode.isOpen = true) :
    Move s (openPort p mode s)
  | reset (cause : Cause) : Move s (enterReset cause s)
  | startUp (straps : Straps) : Move s (startUp straps s)

/-- A run of moves. -/
abbrev Moves : State → State → Prop := Relation.ReflTransGen Move

theorem Moves.refl (s : State) : Moves s s := Relation.ReflTransGen.refl

theorem Move.moves {s t : State} (h : Move s t) : Moves s t := Relation.ReflTransGen.single h

theorem Moves.then {s t u : State} (h : Moves s t) (k : Moves t u) : Moves s u := Relation.ReflTransGen.trans h k

/-- What every move keeps, every run of moves keeps. -/
theorem Moves.keeps {P : State → Prop} (hmove : ∀ s t, P s → Move s t → P t) {s t : State} (h : Moves s t) (hs : P s) : P t := by
  induction h with
  | refl => exact hs
  | tail _ hstep ih => exact hmove _ _ ih hstep

/-! ## The shared operations as moves -/

theorem moves_setPort {p : Port} {s : State} {y : LinePort} (h : Tweak (s.port p) y) : Moves s (s.setPort p y) :=
  (Move.tweak p y h).moves

theorem moves_core {s t : State} (h : SameTraffic s t) : Moves s t := (Move.core h).moves

theorem moves_count (p : Port) (c : CounterName) (s : State) : Moves s (s.count p c) := moves_setPort {}

theorem State.release_setPort (s : State) (p : Port) (x : LinePort) (ref : BufferRef) :
    (s.setPort p x).release ref = (s.release ref).setPort p x := by
  cases ref with
  | reply => rfl
  | pool i =>
    simp only [State.release, State.setPort_buffer]
    cases (s.buffer i).claim with
    | held ingress refs => dsimp only; split <;> rfl
    | free | filling _ | waiting _ => rfl

theorem State.setBuffer_self (s : State) (i : Fin Config.poolSize) : s.setBuffer i (s.buffer i) = s := by
  simp [State.setBuffer, State.buffer]

theorem moves_clearOwnMark (p : Port) (s : State) : Moves s (clearOwnMark p s) := by
  unfold clearOwnMark
  split
  · next r hrx => exact moves_setPort { rx := .inr (.inl (by rw [hrx]; rfl)) }
  all_goals exact .refl s

theorem clearOwnMark_port (p : Port) (s : State) : (clearOwnMark p s).port p = { s.port p with rx := (s.port p).rx.unmarked } := by
  unfold clearOwnMark
  cases h : (s.port p).rx <;> simp [RxState.unmarked, ← h]

theorem attempt_ne_halted {x : TxState} {a : Attempt} (h : x.attempt = some a) : x ≠ .halted := by
  rintro rfl
  cases h

theorem moves_echoVerdict (p : Port) (counted : Option CounterName) (s : State) : Moves s (echoVerdict p counted s) := by
  unfold echoVerdict
  split
  · next a ha =>
    have htx := attempt_ne_halted ha
    split
    · cases counted with
      | none => exact (Move.pop p htx).moves
      | some c => exact (moves_count p c s).then (Move.pop p (by simpa using htx)).moves
    · exact .refl s
  · exact .refl s

/-- The entry of an expired attempt leaves as stale, and the transmitter rests (R51). -/
theorem moves_rest_removeStale {p : Port} {s : State} (htx : (s.port p).tx ≠ .halted) :
    Moves s (restTransmitter p (removeStale p s)) :=
  (moves_count p .dropStale s).then (Move.pop p (by simpa using htx)).moves

theorem moves_rest_retryHead {p : Port} {s : State} (htx : (s.port p).tx ≠ .halted) : Moves s (restTransmitter p (retryHead p s)) := by
  unfold retryHead
  split
  · exact (Move.rest p htx).moves
  · next e rest hqueue =>
    dsimp only
    split
    · have hpop : removeHead p ((s.setPort p { s.port p with queue := { e with failed := e.failed + 1 } :: rest }).count p .dropRetry)
          = removeHead p (s.count p .dropRetry) := by
        simp [removeHead, State.count, hqueue]
      rw [hpop]
      exact (moves_count p .dropRetry s).then (Move.pop p (by simpa using htx)).moves
    · next hlimit => exact (Move.retry p e rest htx hqueue (not_le.1 hlimit)).moves

theorem moves_failAttempt {p : Port} {counted : CounterName} {a : Attempt} {s : State} (htx : (s.port p).tx ≠ .halted) :
    Moves s (failAttempt p counted a s) := by
  have hbefore := (moves_count p counted s).then (moves_clearOwnMark p _)
  have htx' : ((clearOwnMark p (s.count p counted)).port p).tx ≠ .halted := by simpa [clearOwnMark_port] using htx
  unfold failAttempt
  dsimp only
  split
  · exact hbefore.then (moves_rest_removeStale htx')
  · exact hbefore.then (moves_rest_retryHead htx')

theorem moves_dropAttempt {p : Port} {a : Attempt} {s : State} (htx : (s.port p).tx ≠ .halted) : Moves s (dropAttempt p a s) := by
  have htx' : ((clearOwnMark p s).port p).tx ≠ .halted := by simpa [clearOwnMark_port] using htx
  unfold dropAttempt
  dsimp only
  split
  · exact (moves_clearOwnMark p s).then (moves_rest_removeStale htx')
  · exact (moves_clearOwnMark p s).then (Move.rest p htx').moves

theorem moves_endUncounted (p : Port) (s : State) : Moves s (endUncounted p s) := by
  unfold endUncounted
  cases htx : (s.port p).tx with
  | arbitrating a | sending a =>
    dsimp only
    split
    · exact .refl s
    · exact moves_dropAttempt (by rw [htx]; exact TxState.noConfusion)
  | breaking since => exact (Move.rest p (by rw [htx]; exact TxState.noConfusion)).moves
  | idle | waitGap | halted => exact .refl s

theorem moves_abortReception {p : Port} {counted : CounterName} {next : RxState} (hnext : next.Listening) (s : State) :
    Moves s (abortReception p counted next s) := by
  unfold abortReception
  cases hrx : (s.port p).rx with
  | filling r =>
    have hdrop : Moves s (((s.count p counted).freeBuffer r.buffer).setPort p
        { ((s.count p counted).freeBuffer r.buffer).port p with rx := next }) := by
      simpa using (moves_count p counted s).then (Move.drop p r next (by simpa using hrx) hnext).moves
    dsimp only
    split
    · exact hdrop.then (moves_echoVerdict ..)
    · exact hdrop
  | search | skip | deaf => exact .refl s

theorem moves_takeFault (p : Port) (s : State) : Moves s (takeFault p s) := by
  unfold takeFault
  cases hmode : (s.port p).mode with
  | running => exact (moves_count p .faults s).then (moves_setPort { mode := by simp [hmode, PortMode.isOpen] })
  | recovering => exact (moves_count p .faults s).then (Move.close p .isolated (by simp [hmode, PortMode.isOpen]) rfl).moves
  | isolated | off => exact .refl s

theorem moves_endProbation (p : Port) (s : State) : Moves s (endProbation p s) := by
  unfold endProbation
  cases hmode : (s.port p).mode with
  | recovering => exact moves_setPort { mode := by simp [hmode, PortMode.isOpen] }
  | running | isolated | off => exact .refl s

/-! ## The line's other events -/

section
variable {p : Port} {f : State → State} {s t : State}

theorem moves_onOpenPort (hf : (s.port p).mode.isOpen = true → Moves s (f s)) : Moves s (onOpenPort p f s) := by
  unfold onOpenPort
  split
  · next h => exact hf h
  · exact .refl s

theorem Moves.onLivePort (h : Moves s t) (hf : (t.port p).mode.isOpen = true → Moves t (f t)) : Moves s (onLivePort p f t) := by
  unfold Machine.onLivePort ifStarted
  split
  · exact h.then (moves_onOpenPort hf)
  · exact h

end

/-- On an open port the line's measurements, the candidate and the attempt's start bit may change, the line not idle after it. -/
theorem tweak_line {x : LinePort} (hopen : x.mode.isOpen = true) (candidate : Option StartBit) (ownStart : Bool) {line : LineView}
    (hline : line.idle = true → x.line.idle = true ∨ x.tx.driving = false) :
    Tweak x { x with candidate := candidate, ownStart := ownStart, line := line } where
  idle := hline
  closed := fun h => by rw [hopen] at h; cases h

theorem moves_gapAtReceiver (p : Port) (s : State) : Moves s (gapAtReceiver p s) := by
  unfold gapAtReceiver
  cases hrx : (s.port p).rx with
  | filling r => exact moves_abortReception (.inl rfl) s
  | skip => exact moves_setPort { rx := .inr (.inr ⟨.inr hrx, .inl rfl⟩) }
  | search | deaf => exact .refl s

theorem moves_gapAtTransmitter (p : Port) (s : State) : Moves s (gapAtTransmitter p s) := by
  unfold gapAtTransmitter
  cases htx : (s.port p).tx with
  | waitGap => exact (Move.begin p htx).moves
  | idle | arbitrating _ | sending _ | breaking _ | halted => exact .refl s

theorem moves_idleGap {p : Port} {samples : Nat} {s : State} (hopen : (s.port p).mode.isOpen = true)
    (hdriving : (s.port p).tx.driving = false) : Moves s (idleGap p samples s) :=
  ((moves_setPort (tweak_line hopen none false fun _ => .inr hdriving)).then (moves_gapAtReceiver p _)).then (moves_gapAtTransmitter p _)

theorem moves_breakEnds {p : Port} {s : State} (hopen : (s.port p).mode.isOpen = true) : Moves s (breakEnds p s) := by
  unfold breakEnds
  split
  · exact .refl s
  · exact (moves_setPort (tweak_line hopen none false fun h => by cases h)).then (moves_abortReception (.inr rfl) _)

theorem moves_normalRunEnds {p : Port} {samples : Nat} {s : State} (hopen : (s.port p).mode.isOpen = true) :
    Moves s (normalRunEnds p samples s) := by
  unfold normalRunEnds
  dsimp only
  split
  · exact moves_setPort (tweak_line hopen _ _ fun h => by cases h)
  · exact .refl s

theorem moves_longBreak {p : Port} {s : State} (hopen : (s.port p).mode.isOpen = true) : Moves s (longBreak p s) := by
  unfold longBreak
  split
  · exact .refl s
  split
  · exact (Move.reset _).moves
  · exact moves_breakEnds hopen

theorem moves_stuckToBlocks (p : Port) (s : State) : Moves s (stuckToBlocks p s) :=
  (moves_abortReception (.inr rfl) s).then (moves_endUncounted p _)

theorem moves_stuckLine {p : Port} {order : StuckOrder} {samples : Nat} {s : State} (hopen : (s.port p).mode.isOpen = true) :
    Moves s (stuckLine p order samples s) := by
  have hline : Moves s (s.setPort p
      { s.port p with
        candidate := none, ownStart := false
        line := { LineView.dominantFor s.clock samples with stuck := true } }) :=
    moves_setPort (tweak_line hopen none false fun h => by cases h)
  cases order with
  | blocksFirst => exact hline.then ((moves_stuckToBlocks p _).then (moves_takeFault p _))
  | faultFirst => exact hline.then ((moves_takeFault p _).then (moves_onOpenPort fun _ => moves_stuckToBlocks p _))

theorem moves_takeMissedRun {p : Port} {upTo recessives : Nat} {s : State} (hopen : (s.port p).mode.isOpen = true) :
    Moves s (takeMissedRun p upTo recessives s) := by
  unfold takeMissedRun
  dsimp only
  split
  · exact .refl s
  · exact moves_breakEnds hopen
  · exact moves_longBreak hopen
  · exact moves_stuckLine hopen

theorem moves_takeMissedGap {p : Port} {told : Nat} {s : State} (hopen : (s.port p).mode.isOpen = true) :
    Moves s (takeMissedGap p told s) := by
  unfold takeMissedGap
  dsimp only
  split
  · next h =>
    simp only [LinePort.gapMissed, Bool.and_eq_true, Bool.not_eq_true'] at h
    obtain ⟨-, ⟨-, hdriving⟩, -⟩ := h
    exact moves_idleGap hopen hdriving
  · exact .refl s

/-! ## What keeps a port open -/

theorem sameSupervision_beginSending (p : Port) (s : State) : SameSupervision p s (beginSending p s) := by
  unfold beginSending
  dsimp only
  split
  · exact sameSupervision_setPort ..
  · split
    · exact .refl p s
    · exact sameSupervision_setPort ..

theorem sameSupervision_gapAtReceiver (p : Port) (s : State) : SameSupervision p s (gapAtReceiver p s) := by
  unfold gapAtReceiver
  split
  · exact sameSupervision_abortReception (by decide) ..
  · exact sameSupervision_setPort ..
  all_goals exact .refl p s

theorem sameSupervision_gapAtTransmitter (p : Port) (s : State) : SameSupervision p s (gapAtTransmitter p s) := by
  unfold gapAtTransmitter
  split
  · exact sameSupervision_beginSending ..
  all_goals exact .refl p s

theorem sameSupervision_idleGap (p : Port) (samples : Nat) (s : State) : SameSupervision p s (idleGap p samples s) :=
  ((sameSupervision_setPort ..).trans (sameSupervision_gapAtReceiver p _)).trans (sameSupervision_gapAtTransmitter p _)

theorem sameSupervision_takeMissedGap (p : Port) (told : Nat) (s : State) : SameSupervision p s (takeMissedGap p told s) := by
  unfold takeMissedGap
  dsimp only
  split
  · exact sameSupervision_idleGap ..
  · exact .refl p s

/-! ## A telegram in reception -/

theorem crcOf_append_one (bytes : List Byte) (b : Byte) : crcOf (bytes ++ [b]) = crcByte (crcOf bytes) b := by
  simp [crcOf]

/-- The record of a header just taken agrees with its buffer (R19, R20). -/
theorem faithful_header {r : RxRecord} {data : Byte} (hposition : r.position = 1) (hexpected : r.expected = none)
    (hhigh : r.checkHigh = none) (hcrc : r.crc = crcByte crcStart data) : r.Faithful ⟨data, 0, 0, []⟩ := by
  unfold RxRecord.Faithful
  rw [if_pos (by omega), hposition]
  exact ⟨le_refl 1, hexpected, hhigh, rfl, hcrc⟩

/-- What a record says once the class and length byte has been stored. -/
theorem RxRecord.Faithful.late {r : RxRecord} {t : Telegram} (h : r.Faithful t) {n : Nat} (hn : r.expected = some n) :
    3 ≤ r.position ∧ n = t.count ∧ r.position < t.count ∧ t.payload.length = min (r.position - 3) t.length
      ∧ r.checkHigh.isSome = decide (r.position + 1 = t.count) ∧ r.crc = crcOf t.bytes := by
  unfold RxRecord.Faithful at h
  split at h
  · rw [h.2.1] at hn
    cases hn
  · next hp =>
    obtain ⟨hexpected, hless, hlength, hhigh, hcrc⟩ := h
    exact ⟨not_lt.1 hp, Option.some.inj (hn.symm.trans hexpected), hless, hlength, hhigh, hcrc⟩

/-- At its last character a telegram in reception is whole (R22). -/
theorem RxRecord.Faithful.whole {r : RxRecord} {t : Telegram} (h : r.Faithful t) (hlast : r.expected = some (r.position + 1)) :
    t.Whole := by
  obtain ⟨-, hcount, -, hlength, -⟩ := h.late hlast
  unfold Telegram.count at hcount
  unfold Telegram.Whole
  omega

/-- The check value's more significant byte is held, not stored (R22). -/
theorem RxRecord.Faithful.checkHigh {r r' : RxRecord} {t : Telegram} (h : r.Faithful t) (hlast : r.expected = some (r.position + 2))
    (hposition : r'.position = r.position + 1) (hexpected : r'.expected = r.expected) (hcrc : r'.crc = r.crc)
    (hhigh : r'.checkHigh.isSome = true) : r'.Faithful t := by
  obtain ⟨hp, hcount, hless, hlength, -, hcrc'⟩ := h.late hlast
  have hcount' : r.position + 2 = 5 + t.length := hcount
  unfold RxRecord.Faithful
  rw [if_neg (by omega)]
  refine ⟨by rw [hexpected, hlast, hcount], by omega, by omega, ?_, hcrc.trans hcrc'⟩
  rw [hhigh, hposition]
  exact (decide_eq_true (by omega)).symm

/-- A byte short of the check value is stored by its position, and the record goes with it (R22). -/
theorem RxRecord.Faithful.storeByte {r r' : RxRecord} {t : Telegram} {data : Byte} (h : r.Faithful t)
    (hlast : r.expected ≠ some (r.position + 1)) (hhigh : r.expected ≠ some (r.position + 2)) (hposition : r'.position = r.position + 1)
    (hexpected : r'.expected = if r.position + 1 = 3 then some (5 + data.toNat % 32) else r.expected)
    (hcrc : r'.crc = crcByte r.crc data) (hheld : r'.checkHigh = r.checkHigh) :
    r'.Faithful (Machine.storeByte (r.position + 1) data t) := by
  have hparts := h
  unfold RxRecord.Faithful at hparts
  split at hparts
  · next hp =>
    obtain ⟨hfirst, hnone, hnohigh, hpayload, hcrc'⟩ := hparts
    obtain h1 | h2 : r.position = 1 ∨ r.position = 2 := by omega
    · rw [h1] at hexpected hcrc'
      rw [h1, RxRecord.Faithful, if_pos (by omega), hposition, h1]
      exact ⟨by omega, hexpected.trans hnone, hheld.trans hnohigh, hpayload, by rw [hcrc, hcrc', ← crcOf_append_one]; rfl⟩
    · rw [h2] at hexpected hcrc'
      rw [h2, RxRecord.Faithful, if_neg (by omega), hposition, h2]
      refine ⟨hexpected, ?_, ?_, ?_, ?_⟩
      · show 3 < 5 + _; omega
      · show t.payload.length = _; rw [hpayload]; simp
      · rw [hheld, hnohigh]; exact (decide_eq_false (by show ¬ 4 = 5 + _; omega)).symm
      · rw [hcrc, hcrc', ← crcOf_append_one]
        simp [Machine.storeByte, Telegram.bytes, hpayload]
  · next hp =>
    obtain ⟨hcount, hless, hlength, hhighSome, hcrc'⟩ := hparts
    have hne1 : r.position + 1 ≠ t.count := fun e => hlast (by rw [hcount, e])
    have hne2 : r.position + 2 ≠ t.count := fun e => hhigh (by rw [hcount, e])
    unfold Telegram.count at hne1 hne2 hless
    have hstored : Machine.storeByte (r.position + 1) data t = { t with payload := t.payload ++ [data] } := by
      unfold Machine.storeByte
      rw [if_neg (by omega), if_neg (by omega)]
    rw [hstored, RxRecord.Faithful, if_neg (by omega), hposition]
    refine ⟨?_, ?_, ?_, ?_, ?_⟩
    · rw [hexpected, if_neg (by omega), hcount]; rfl
    · show _ < 5 + t.length; omega
    · show (t.payload ++ [data]).length = min _ t.length
      rw [List.length_append, hlength, List.length_singleton]
      omega
    · rw [hheld, hhighSome, decide_eq_false (show ¬ r.position + 1 = t.count from hne1)]
      exact (decide_eq_false (by show ¬ _ = 5 + t.length; omega)).symm
    · rw [hcrc, hcrc', ← crcOf_append_one]
      have htake (l : List Byte) (hl : l.length ≤ t.length) : l.take t.length = l := List.take_of_length_le hl
      show crcOf _ = crcOf (t.destination :: t.source :: t.control :: (t.payload ++ [data]).take t.length)
      rw [htake _ (by rw [List.length_append, List.length_singleton]; omega), Telegram.bytes, htake _ (by omega)]
      rfl

theorem freeIndex_free {s : State} {i : Fin Config.poolSize} (h : s.freeIndex = some i) : (s.buffer i).claim = .free := by
  simpa using List.find?_some h

theorem moves_takeHeader {p : Port} {c : Character} {start : StartBit} {s : State} (hrx : (s.port p).rx.Listening) :
    Moves s (takeHeader p c start s) := by
  unfold takeHeader
  split
  · exact (moves_count p .rxNoBuffer s).then (moves_setPort { rx := .inr (.inr ⟨by simpa using hrx, .inr rfl⟩) })
  · next i hi => exact (Move.header p i c.data _ hrx (freeIndex_free hi) rfl (faithful_header rfl rfl rfl rfl)).moves

/-- A report that ends probation touches the port's state alone (R61). -/
theorem endProbation_eq (p : Port) (s : State) :
    endProbation p s = s.setPort p { s.port p with mode := (s.port p).mode.afterReport } := by
  by_cases hmode : (s.port p).mode = .recovering
  · unfold endProbation
    rw [hmode]
    rfl
  · have hsame : (s.port p).mode.afterReport = (s.port p).mode := if_neg hmode
    rw [hsame]
    refine Eq.trans ?_ (State.setPort_port s p).symm
    unfold endProbation
    split
    · next h => exact absurd h hmode
    all_goals rfl

/-! A port's own operation and one on a buffer do not depend on their order. -/

@[simp] theorem State.freeBuffer_setPort (s : State) (p : Port) (x : LinePort) (i : Fin Config.poolSize) :
    (s.setPort p x).freeBuffer i = (s.freeBuffer i).setPort p x := rfl

@[simp] theorem State.setBuffer_setPort (s : State) (p : Port) (x : LinePort) (i : Fin Config.poolSize) (b : Buffer) :
    (s.setPort p x).setBuffer i b = (s.setBuffer i b).setPort p x := rfl

theorem afterReport_isOpen (m : PortMode) : m.afterReport.isOpen = m.isOpen := by cases m <;> rfl

/-- A completed telegram that is accepted (R28): its report is counted, and it waits. -/
theorem moves_acceptTelegram {p : Port} {r r' : RxRecord} {s : State} (hrx : (s.port p).rx = .filling r) (hbuffer : r'.buffer = r.buffer)
    (hlast : r.expected = some (r.position + 1)) :
    Moves s (acceptTelegram p r' (endProbation p (s.setPort p { s.port p with rx := .search }))) := by
  have hreport (c : CounterName) : Moves s ((endProbation p s).count p c) := (moves_endProbation p s).then (moves_count p c _)
  have hrx' (c : CounterName) : (((endProbation p s).count p c).port p).rx = .filling r := by simpa [endProbation_eq] using hrx
  unfold acceptTelegram
  rw [hbuffer]
  split
  · refine (hreport .rxNoisyDropped).then ?_
    have hdrop := (Move.drop p r .search (hrx' .rxNoisyDropped) (.inl rfl)).moves
    simpa [endProbation_eq, State.count] using hdrop
  · refine (hreport .rxGood).then ?_
    have haccept := (Move.accept p r (hrx' .rxGood) fun h => h.whole hlast).moves
    simpa [endProbation_eq, State.count] using haccept

/-- The own capture of an attempt is dropped at its last character, and settles the attempt (R26, R48). -/
theorem moves_completeTelegram {p : Port} {r r' : RxRecord} {received : Check} {s : State} (hrx : (s.port p).rx = .filling r)
    (hbuffer : r'.buffer = r.buffer) (hlast : r.expected = some (r.position + 1)) : Moves s (completeTelegram p r' received s) := by
  have hdrop := (Move.drop p r .search hrx (.inl rfl)).moves
  unfold completeTelegram
  dsimp only
  split
  · split
    · refine Moves.then ?_ (moves_echoVerdict ..)
      rw [hbuffer]
      have hend := hdrop.then (moves_endProbation p _)
      simpa [endProbation_eq] using hend
    · exact moves_acceptTelegram hrx hbuffer hlast
  · split
    · refine Moves.then ?_ (moves_echoVerdict ..)
      rw [hbuffer]
      exact hdrop
    · rw [hbuffer]
      have hcount := hdrop.then (moves_count p .rxChecksum _)
      simpa [State.count] using hcount

/-- The third character fixes an expected count of at least 5 (R22), so that a count met sooner was there before. -/
theorem expected_of_met {r : RxRecord} {data : Byte} {n : Nat} (hn : n ≤ r.position + 2)
    (h : (if r.position + 1 = 3 then some (5 + data.toNat % 32) else r.expected) = some n) : r.expected = some n := by
  split at h
  · have := Option.some.inj h
    omega
  · exact h

/-- Where no count is met by the record after a third character, none was met before it. -/
theorem RxRecord.Faithful.not_met {r : RxRecord} {t : Telegram} {data : Byte} (h : r.Faithful t) {n : Nat}
    (hn : (if r.position + 1 = 3 then some (5 + data.toNat % 32) else r.expected) ≠ some n) : r.expected ≠ some n := by
  intro e
  obtain ⟨hp, -⟩ := h.late e
  rw [if_neg (by omega)] at hn
  exact hn e

/-- What a good character without a mark does to the record in FILLING (R22), by the three places it can have. -/
theorem moves_storeCharacter {p : Port} {r : RxRecord} {c : Character} {s : State} (hrx : (s.port p).rx = .filling r) :
    Moves s (storeCharacter p r c s) := by
  unfold storeCharacter
  dsimp only
  generalize hexpected : (if r.position + 1 = 3 then some (5 + c.data.toNat % 32) else r.expected) = expected
  split
  · next hlast =>
    exact moves_completeTelegram hrx rfl (expected_of_met (by omega) (hexpected.trans hlast))
  split
  · next hhigh =>
    have hstore := (Move.store p r
      { r with position := r.position + 1, noise := r.noise || c.noisy, checkHigh := some c.data }
      (s.buffer r.buffer).telegram hrx rfl
      fun h => h.checkHigh (expected_of_met (le_refl _) (hexpected.trans hhigh)) rfl rfl rfl rfl).moves
    rwa [show ({ s.buffer r.buffer with telegram := (s.buffer r.buffer).telegram } : Buffer) = s.buffer r.buffer from rfl,
      State.setBuffer_self] at hstore
  · next hlast hhigh =>
    exact (Move.store p r
      { r with position := r.position + 1, noise := r.noise || c.noisy, expected := expected, crc := crcByte r.crc c.data } _ hrx rfl
      fun h =>
      h.storeByte (h.not_met (hexpected ▸ hlast)) (h.not_met (hexpected ▸ hhigh)) rfl hexpected.symm rfl rfl).moves

/-! ## A character at a port -/

/-- An abandoned telegram leaves its receiver in the state it is sent to. -/
theorem abortReception_rx {p : Port} {counted : CounterName} {next : RxState} {r : RxRecord} {s : State}
    (hrx : (s.port p).rx = .filling r) : ((abortReception p counted next s).port p).rx = next := by
  have hecho (u : State) : ((echoVerdict p none u).port p).rx = (u.port p).rx := by
    unfold echoVerdict
    split
    · split
      · simp only [restTransmitter, State.port_setPort_same]
        unfold removeHead
        cases (u.port p).queue <;> simp
      · rfl
    · rfl
  unfold abortReception
  rw [hrx]
  dsimp only
  split
  · rw [hecho, State.port_setPort_same]
  · rw [State.port_setPort_same]

/-- What is taken between the two requests of R30: moves, and nothing at this port but what a reset leaves. -/
def Between (p : Port) (f : State → State) : Prop :=
  ∀ u, Moves u (f u) ∧ ((f u).phase = .inReset ∨ (f u).port p = u.port p)

theorem moves_deliverCharacter {p : Port} {c : Character} {start : StartBit} {between : State → State} (hbetween : Between p between)
    (s : State) : Moves s (deliverCharacter p c start between s) := by
  unfold deliverCharacter
  cases hrx : (s.port p).rx with
  | search =>
    have hskip : Moves s (s.setPort p { s.port p with rx := .skip }) := moves_setPort { rx := .inr (.inr ⟨.inl hrx, .inr rfl⟩) }
    dsimp only
    split
    · exact hskip
    split
    · exact moves_takeHeader (.inl hrx)
    · exact hskip
  | skip =>
    dsimp only
    split
    · exact .refl s
    split
    · exact moves_takeHeader (.inr hrx)
    · exact .refl s
  | filling r =>
    dsimp only
    split
    · exact moves_abortReception (.inr rfl) s
    split
    · obtain ⟨hmoves, hport⟩ := hbetween (abortReception p .rxBroken .search s)
      have hbefore := (moves_abortReception (p := p) (counted := .rxBroken) (.inl rfl) s).then hmoves
      rcases hport with hreset | hport
      · rw [onLivePort_inReset hreset]
        exact hbefore
      · exact hbefore.onLivePort fun _ => moves_takeHeader (.inl (by rw [hport, abortReception_rx hrx]))
    · exact moves_storeCharacter hrx
  | deaf => exact .refl s

theorem lineAfterCharacter_idle (x : LinePort) (now : Nat) (samples : List Level) : (lineAfterCharacter x now samples).idle = false := by
  unfold lineAfterCharacter
  dsimp only
  split
  · rfl
  split <;> rfl

theorem moves_receiveCharacter {p : Port} {c : Character} {samples : List Level} {between : State → State}
    (hbetween : Between p between) (s : State) : Moves s (receiveCharacter p c samples between s) := by
  refine (moves_deliverCharacter hbetween s).onLivePort fun hopen => ?_
  generalize deliverCharacter p c _ between s = u at hopen ⊢
  have hline := moves_setPort (p := p) (s := u.setPort p { u.port p with tx := nextCharacter u (u.port p).tx })
    (tweak_line (by simpa using hopen) none false (line := lineAfterCharacter (s.port p) s.clock samples)
      fun h => by rw [lineAfterCharacter_idle] at h; cases h)
  simpa using (Move.advance p).moves.then hline

/-- A row that tells of a dominant sample, at an open port. -/
theorem moves_afterMissed {p : Port} {recessives rest : Nat} {row : State → State} {s : State} (hopen : (s.port p).mode.isOpen = true)
    (hrow : ∀ u : State, (u.port p).mode.isOpen = true → Moves u (row u)) : Moves s (afterMissed p recessives rest row s) := by
  refine (moves_takeMissedRun hopen).onLivePort fun hopen' => ?_
  refine (moves_takeMissedGap hopen').then (hrow _ ?_)
  rw [(sameSupervision_takeMissedGap ..).1]
  exact hopen'

theorem lineAfterFalseStart_idle (now : Nat) (samples : List Level) : (lineAfterFalseStart now samples).idle = false := by
  unfold lineAfterFalseStart
  split <;> rfl

theorem moves_passOver {p : Port} {recessives : Nat} {s : State} (hopen : (s.port p).mode.isOpen = true) :
    Moves s (passOver p recessives s) := by
  refine moves_setPort (tweak_line hopen _ _ fun h => ?_)
  dsimp only at h
  split at h
  · split at h <;> cases h
  · cases h

/-! ## The other ports of a character -/

/-- Every port but one is as it was. -/
def OthersKept (q : Port) (s t : State) : Prop := ∀ p, p ≠ q → t.port p = s.port p

theorem OthersKept.refl (q : Port) (s : State) : OthersKept q s s := fun _ _ => rfl

theorem OthersKept.trans {q : Port} {s t u : State} (h : OthersKept q s t) (k : OthersKept q t u) : OthersKept q s u :=
  fun p hp => (k p hp).trans (h p hp)

theorem OnlyLine.othersKept {q : Port} {s t : State} (h : OnlyLine q s t) : OthersKept q s t := fun _ hp => h.port_ne hp

theorem othersKept_acceptTelegram (q : Port) (r : RxRecord) (s : State) : OthersKept q s (acceptTelegram q r s) := by
  unfold acceptTelegram
  split
  · exact ((onlyLine_count ..).trans (onlyLine_freeBuffer ..)).othersKept
  · exact (onlyLine_count q s .rxGood).othersKept

theorem othersKept_completeTelegram (q : Port) (r : RxRecord) (received : Check) (s : State) :
    OthersKept q s (completeTelegram q r received s) := by
  have hsearch : OnlyLine q s (s.setPort q { s.port q with rx := .search }) := onlyLine_setPort ..
  unfold completeTelegram
  dsimp only
  split
  · split
    · exact (((hsearch.trans (onlyLine_endProbation ..)).trans (onlyLine_freeBuffer ..)).trans (onlyLine_echoVerdict ..)).othersKept
    · exact (hsearch.trans (onlyLine_endProbation ..)).othersKept.trans (othersKept_acceptTelegram _ _ _)
  · split
    · exact ((hsearch.trans (onlyLine_freeBuffer ..)).trans (onlyLine_echoVerdict ..)).othersKept
    · exact ((hsearch.trans (onlyLine_count ..)).trans (onlyLine_freeBuffer ..)).othersKept

theorem othersKept_storeCharacter (q : Port) (r : RxRecord) (c : Character) (s : State) :
    OthersKept q s (storeCharacter q r c s) := by
  unfold storeCharacter
  dsimp only
  generalize (if r.position + 1 = 3 then some (5 + c.data.toNat % 32) else r.expected) = expected
  split
  · exact othersKept_completeTelegram _ _ _ _
  split
  · exact (onlyLine_setPort ..).othersKept
  · exact ((onlyLine_setBuffer ..).trans (onlyLine_setPort ..)).othersKept

/-- Every port but one is as it was, or the bridge is held in reset. -/
def OthersKeptOrReset (q : Port) (s t : State) : Prop := t.phase = .inReset ∨ OthersKept q s t

theorem OthersKeptOrReset.onLivePort {q : Port} {s t : State} {f : State → State} (h : OthersKeptOrReset q s t)
    (hf : ∀ u, OthersKeptOrReset q u (f u)) : OthersKeptOrReset q s (onLivePort q f t) := by
  rcases h with h | h
  · rw [onLivePort_inReset h]
    exact .inl h
  · unfold Machine.onLivePort ifStarted onOpenPort
    split
    · split
      · exact (hf t).imp id h.trans
      · exact .inr h
    · exact .inr h

theorem othersKept_deliverCharacter (q : Port) (c : Character) (start : StartBit) (s : State) :
    OthersKeptOrReset q s (deliverCharacter q c start id s) := by
  unfold deliverCharacter
  split
  · split
    · exact .inr (onlyLine_setPort ..).othersKept
    split
    · exact .inr (onlyLine_takeHeader ..).othersKept
    · exact .inr (onlyLine_setPort ..).othersKept
  · split
    · exact .inr (.refl q s)
    split
    · exact .inr (onlyLine_takeHeader ..).othersKept
    · exact .inr (.refl q s)
  · split
    · exact .inr (onlyLine_abortReception ..).othersKept
    split
    · exact OthersKeptOrReset.onLivePort (.inr (onlyLine_abortReception ..).othersKept) fun u => .inr (onlyLine_takeHeader ..).othersKept
    · exact .inr (othersKept_storeCharacter _ _ _ _)
  · exact .inr (.refl q s)

theorem othersKept_afterMissed {q : Port} {recessives rest : Nat} {row : State → State} (hrow : ∀ u, OthersKeptOrReset q u (row u))
    (s : State) : OthersKeptOrReset q s (afterMissed q recessives rest row s) := by
  have hrun : OthersKeptOrReset q s (takeMissedRun q (s.clock - 1) recessives s) := by
    rcases takeMissedRun_frame q (s.clock - 1) recessives s with h | h
    · exact .inr h.othersKept
    · exact .inl (by rw [h]; rfl)
  exact hrun.onLivePort fun u => (hrow _).imp id (onlyLine_takeMissedGap q rest u).othersKept.trans

theorem othersKept_receiveCharacter (q : Port) (c : Character) (samples : List Level) (s : State) :
    OthersKeptOrReset q s (receiveCharacter q c samples id s) :=
  (othersKept_deliverCharacter q c _ s).onLivePort fun _ => .inr (onlyLine_setPort ..).othersKept

/-- A rival header acts on its own port, or resets the bridge (R30, R34). -/
theorem takeRival_between (p : Port) (rival : Option Rival) : Between p (takeRival p rival) := by
  intro u
  unfold takeRival
  split
  · next r =>
    split
    · exact ⟨.refl u, .inr rfl⟩
    · next hne =>
      refine ⟨(Moves.refl u).onLivePort fun hopen => moves_afterMissed hopen fun v _ => moves_receiveCharacter ?_ v, ?_⟩
      · exact fun w => ⟨.refl w, .inr rfl⟩
      · have := OthersKeptOrReset.onLivePort (.inr (.refl r.port u))
          (othersKept_afterMissed (recessives := 2) (rest := 0) (othersKept_receiveCharacter r.port r.char (nominalSamples r.char)))
        exact this.imp id fun h => h p (Ne.symm hne)
  · exact ⟨.refl u, .inr rfl⟩

/-! ## An idle gap after what was missed -/

/-- A port whose transmitter does not drive its line goes on not to. -/
def StaysQuiet (p : Port) (s t : State) : Prop := (s.port p).tx.driving = false → (t.port p).tx.driving = false

theorem StaysQuiet.trans {p : Port} {s t u : State} (h : StaysQuiet p s t) (k : StaysQuiet p t u) : StaysQuiet p s u :=
  fun hs => k (h hs)

theorem staysQuiet_of_tx {p : Port} {s t : State} (h : (t.port p).tx = (s.port p).tx) : StaysQuiet p s t := fun hs => by rw [h]; exact hs

theorem restTransmitter_driving (p : Port) (s : State) : ((restTransmitter p s).port p).tx.driving = false := by
  simp only [restTransmitter, State.port_setPort_same]
  split <;> rfl

theorem staysQuiet_echoVerdict (p : Port) (counted : Option CounterName) (s : State) : StaysQuiet p s (echoVerdict p counted s) := by
  intro hs
  unfold echoVerdict
  split
  · split
    · exact restTransmitter_driving ..
    · exact hs
  · exact hs

theorem staysQuiet_abortReception (p : Port) (counted : CounterName) (next : RxState) (s : State) :
    StaysQuiet p s (abortReception p counted next s) := by
  unfold abortReception
  cases (s.port p).rx with
  | filling r =>
    dsimp only
    split
    · refine StaysQuiet.trans (staysQuiet_of_tx ?_) (staysQuiet_echoVerdict _ _ _)
      simp
    · exact staysQuiet_of_tx (by simp)
  | search | skip | deaf => exact id

theorem staysQuiet_breakEnds (p : Port) (s : State) : StaysQuiet p s (breakEnds p s) := by
  unfold breakEnds
  split
  · exact id
  · refine StaysQuiet.trans (staysQuiet_of_tx ?_) (staysQuiet_abortReception _ _ _ _)
    simp

theorem staysQuiet_endUncounted (p : Port) (s : State) : StaysQuiet p s (endUncounted p s) := by
  unfold endUncounted
  cases htx : (s.port p).tx with
  | arbitrating a | sending a =>
    dsimp only
    split
    · exact id
    · exact fun _ => restTransmitter_driving ..
  | breaking since => exact fun _ => restTransmitter_driving ..
  | idle | waitGap | halted => exact id

theorem staysQuiet_takeFault (p : Port) (s : State) : StaysQuiet p s (takeFault p s) := by
  unfold takeFault
  cases (s.port p).mode with
  | running => exact staysQuiet_of_tx (by simp)
  | recovering =>
    obtain ⟨-, -, htx, -⟩ := closePort_port p .isolated (s.count p .faults)
    exact fun _ => by dsimp only; rw [htx]; rfl
  | isolated | off => exact id

theorem staysQuiet_takeMissedRun (p : Port) (upTo recessives : Nat) (s : State) : StaysQuiet p s (takeMissedRun p upTo recessives s) := by
  unfold takeMissedRun
  dsimp only
  split
  · exact id
  · exact staysQuiet_breakEnds _ _
  · unfold longBreak
    split
    · exact id
    split
    · exact fun _ => by rw [enterReset_port]; rfl
    · exact staysQuiet_breakEnds _ _
  · refine StaysQuiet.trans (staysQuiet_of_tx ?_) (((staysQuiet_abortReception _ _ _ _).trans (staysQuiet_endUncounted _ _)).trans
      (staysQuiet_takeFault _ _))
    simp

/-! ## Classification -/

theorem raiseHit_sameTraffic (entry : Option (Fin 240)) (s : State) : SameTraffic s (raiseHit entry s) := by
  unfold raiseHit
  split <;> exact ⟨rfl, rfl, rfl, rfl, rfl, rfl, le_refl _⟩

/-- A field that is written keeps the payload's length (R116). -/
theorem write_payload_length (f : FieldTest) (v : Int) (t : Telegram) :
    (f.write v t).payload.length = t.payload.length ∧ (f.write v t).control = t.control := by
  unfold FieldTest.write
  cases f.width <;> simp

/-- What is forwarded has the class, the length and as many payload bytes as what was received (R115, R116). -/
theorem adjustTelegram_length {adjust : Option (FieldTest × Adjustment)} {rewrite : Option Byte} {t u : Telegram}
    (h : adjustTelegram adjust (rewriteTelegram rewrite t) = some u) : u.control = t.control ∧ u.payload.length = t.payload.length := by
  have hrewrite : (rewriteTelegram rewrite t).control = t.control ∧ (rewriteTelegram rewrite t).payload.length = t.payload.length := by
    cases rewrite <;> exact ⟨rfl, rfl⟩
  obtain ⟨hcontrol, hlength⟩ := hrewrite
  unfold adjustTelegram at h
  split at h
  · cases h
    exact ⟨hcontrol, hlength⟩
  · next f a =>
    split at h
    · cases h
      exact ⟨hcontrol, hlength⟩
    · obtain ⟨r, -, rfl⟩ := Option.map_eq_some_iff.1 h
      obtain ⟨hl, hc⟩ := write_payload_length f r (rewriteTelegram rewrite t)
      exact ⟨hc.trans hcontrol, hl.trans hlength⟩

theorem raiseHit_classQueue (entry : Option (Fin 240)) (s : State) (q : List (Fin Config.poolSize)) :
    raiseHit entry { s with classQueue := q } = { raiseHit entry s with classQueue := q } := by
  cases entry <;> rfl

theorem raiseHit_keeps (entry : Option (Fin 240)) (s : State) :
    (raiseHit entry s).classQueue = s.classQueue ∧ (∀ i, (raiseHit entry s).buffer i = s.buffer i) := by
  cases entry <;> exact ⟨rfl, fun _ => rfl⟩

/-- A decision applied to the buffer at the head of the Classification Queue (R114 to R119). -/
theorem moves_applyDecision {i : Fin Config.poolSize} {rest : List (Fin Config.poolSize)} {ingress : Port} (d : Decision) {s : State}
    (hqueue : s.classQueue = i :: rest) (hclaim : (s.buffer i).claim = .waiting ingress) :
    Moves s (applyDecision i ingress (s.buffer i).telegram d { s with classQueue := rest }) := by
  obtain ⟨hkeeps, hbuffer⟩ := raiseHit_keeps d.entry s
  have hhit : Moves s (raiseHit d.entry s) := (Move.core (raiseHit_sameTraffic d.entry s)).moves
  have hdrop (c : CounterName) : Moves s
      (((raiseHit d.entry { s with classQueue := rest }).count ingress c).freeBuffer i) := by
    rw [raiseHit_classQueue]
    exact (hhit.then (moves_count ingress c _)).then
      (Move.discard i rest ingress (by simpa [hkeeps] using hqueue) (by simpa [hbuffer] using hclaim)).moves
  unfold applyDecision
  dsimp only
  split
  · exact hdrop _
  split
  · exact hdrop _
  · next t ht =>
    obtain ⟨hcontrol, hlength⟩ := adjustTelegram_length ht
    rw [raiseHit_classQueue]
    exact hhit.then (Move.forward i rest ingress t _ (hkeeps.trans hqueue) (by rw [hbuffer]; exact hclaim)
      (by simp [PortSet.without]) (by rw [hbuffer]; exact hcontrol) (by rw [hbuffer]; exact hlength)).moves

theorem moves_routeTelegram {i : Fin Config.poolSize} {rest : List (Fin Config.poolSize)} {ingress : Port} {s : State}
    (hqueue : s.classQueue = i :: rest) (hclaim : (s.buffer i).claim = .waiting ingress) :
    Moves s (routeTelegram i ingress (s.buffer i).telegram { s with classQueue := rest }) := by
  unfold routeTelegram
  split
  · exact moves_applyDecision _ hqueue hclaim
  · split
    · exact (moves_count ingress .busySkips s).then (moves_applyDecision (s := s.count ingress .busySkips) _ hqueue hclaim)
    · exact moves_applyDecision _ hqueue hclaim

/-! ## Management commands -/

theorem SameTraffic.refl (s : State) : SameTraffic s s := ⟨rfl, rfl, rfl, rfl, rfl, rfl, le_refl _⟩

theorem moves_restorePort (ingress p : Port) (s : State) : Moves s (restorePort ingress p s).2 := by
  unfold restorePort
  cases hmode : (s.port p).mode with
  | isolated =>
    dsimp only
    split
    · exact .refl s
    · exact (Move.opens p .recovering (by rw [hmode]; rfl) rfl).moves
  | running | recovering | off => exact .refl s

theorem moves_disablePort (p : Port) (s : State) : Moves s (disablePort p s).2 := by
  unfold disablePort
  cases hmode : (s.port p).mode with
  | running | recovering => exact (Move.close p .off (by rw [hmode]; rfl) rfl).moves
  | isolated => exact moves_setPort { mode := by rw [hmode]; rfl }
  | off => exact .refl s

theorem moves_enablePort (p : Port) (s : State) : Moves s (enablePort p s).2 := by
  unfold enablePort
  cases hmode : (s.port p).mode with
  | off => exact (Move.opens p .running (by rw [hmode]; rfl) rfl).moves
  | running | recovering | isolated => exact .refl s

theorem moves_performPortControl (ingress : Port) (port action : Byte) (s : State) :
    Moves s (performPortControl ingress port action s).state := by
  unfold performPortControl
  split
  · dsimp only
    split
    · exact moves_restorePort ..
    · exact moves_disablePort ..
    · exact moves_enablePort ..
  · exact .refl s

theorem moves_performSendBreak (port : Byte) (s : State) : Moves s (performSendBreak port s).state := by
  unfold performSendBreak
  split
  · exact .refl s
  · next p _ =>
    show Moves s (requestBreak p s).2
    unfold requestBreak
    split
    · next h => exact (Move.requestBreak p (Bool.and_eq_true _ _ ▸ h).1).moves
    · exact .refl s

/-- What performing a command does to the traffic, before its reply. -/
theorem moves_performCommand (ingress : Port) (m : MgmtCommand) (s : State) : Moves s (performCommand ingress m s).state := by
  cases m with
  | status | readEntry slot | bad code => exact .refl s
  | readPortCounters port group =>
    show Moves s (performReadPortCounters port group s).state
    unfold performReadPortCounters
    split
    · exact .refl s
    · split <;> exact .refl s
  | clearCounters port =>
    show Moves s (performClearCounters port s).state
    unfold performClearCounters
    split
    · exact .refl s
    · exact moves_setPort {}
  | stage target image | execute operation echo | abortStage | clearStoreFlags | raiseProtection segment | restart =>
    exact moves_core ⟨rfl, rfl, rfl, rfl, rfl, rfl, le_refl _⟩
  | unlock code =>
    have hunit : (unlockUnit code s.mgmt).2.unit = s.mgmt.unit ∧ (unlockUnit code s.mgmt).2.reply = s.mgmt.reply
        ∧ (unlockUnit code s.mgmt).2.replyPort = s.mgmt.replyPort := by
      unfold unlockUnit
      split
      · exact ⟨rfl, rfl, rfl⟩
      split
      · exact ⟨rfl, rfl, rfl⟩
      · split <;> exact ⟨rfl, rfl, rfl⟩
    obtain ⟨hunit, hreply, hport⟩ := hunit
    exact moves_core ⟨rfl, rfl, rfl, hunit, hreply, hport, le_refl _⟩
  | portControl port action => exact moves_performPortControl ..
  | sendBreak port => exact moves_performSendBreak ..

/-- The unit becomes REPLY_PENDING by a reply alone (R151). -/
theorem release_unit (s : State) (ref : BufferRef) (h : s.mgmt.unit = .idle) : (s.release ref).mgmt.unit = .idle := by
  unfold State.release
  split
  · split
    · split <;> exact h
    all_goals exact h
  · rfl

theorem closePort_unit (p : Port) (mode : PortMode) (s : State) (h : s.mgmt.unit = .idle) : (closePort p mode s).mgmt.unit = .idle := by
  have hflush : ∀ (q : List EgressEntry) (u : State), u.mgmt.unit = .idle →
      (q.foldl (fun t e => (t.count p .dropPortClosed).release e.ref) u).mgmt.unit = .idle := by
    intro q
    induction q with
    | nil => exact fun _ hu => hu
    | cons e rest ih => exact fun u hu => ih _ (release_unit _ _ hu)
  unfold closePort flush
  dsimp only
  refine hflush _ _ ?_
  cases (s.port p).rx <;> exact h

theorem requestBreak_unit (p : Port) (s : State) : (requestBreak p s).2.mgmt.unit = s.mgmt.unit := by
  have hbegin (u : State) : (beginSending p u).mgmt = u.mgmt := by
    unfold beginSending
    dsimp only
    split
    · rfl
    · split <;> rfl
  have happears (u : State) : (workAppears p u).mgmt = u.mgmt := by
    unfold workAppears
    split
    · split
      · exact hbegin u
      · rfl
    all_goals rfl
  unfold requestBreak
  split
  · dsimp only
    rw [happears]
    rfl
  · rfl

theorem performCommand_unit (ingress : Port) (m : MgmtCommand) (s : State) (h : s.mgmt.unit = .idle) :
    (performCommand ingress m s).state.mgmt.unit = .idle := by
  cases m with
  | status | readEntry slot | bad code => exact h
  | readPortCounters port group =>
    show (performReadPortCounters port group s).state.mgmt.unit = _
    unfold performReadPortCounters
    split
    · exact h
    · split <;> exact h
  | clearCounters port =>
    show (performClearCounters port s).state.mgmt.unit = _
    unfold performClearCounters
    split <;> exact h
  | stage target image | execute operation echo | abortStage | clearStoreFlags | raiseProtection segment | restart => exact h
  | unlock code =>
    show (unlockUnit code s.mgmt).2.unit = _
    unfold unlockUnit
    split
    · exact h
    split
    · exact h
    · split <;> exact h
  | portControl port action =>
    show (performPortControl ingress port action s).state.mgmt.unit = _
    unfold performPortControl
    split
    · next p act _ _ =>
      cases act with
      | restore =>
        show (restorePort ingress p s).2.mgmt.unit = _
        unfold restorePort
        split
        · split <;> exact h
        all_goals exact h
      | disable =>
        show (disablePort p s).2.mgmt.unit = _
        unfold disablePort
        split
        iterate 2 · exact closePort_unit _ _ _ h
        all_goals exact h
      | enable =>
        show (enablePort p s).2.mgmt.unit = _
        unfold enablePort
        split <;> exact h
    · exact h
  | sendBreak port =>
    show (performSendBreak port s).state.mgmt.unit = _
    unfold performSendBreak
    split
    · exact h
    · exact (requestBreak_unit _ _).trans h

theorem countBytes_length (n : Count) : (countBytes n).length = 4 := rfl

/-- The data of a reply leaves room for its code and its result (R153): a payload has at most 31 bytes. -/
theorem performCommand_data_length (ingress : Port) (m : MgmtCommand) (s : State) : (performCommand ingress m s).data.length ≤ 29 := by
  cases m with
  | readEntry slot =>
    show (readEntryData s slot).length ≤ 29
    have himage : (reportedImage s slot).length ≤ 18 := by
      unfold reportedImage
      split
      · simp
      · split <;> simp
    simp only [readEntryData, List.length_append, countBytes_length, List.length_cons, List.length_nil]
    omega
  | readPortCounters port group =>
    show (performReadPortCounters port group s).data.length ≤ 29
    unfold performReadPortCounters
    split
    · simp
    · split
      · simp [groupData, countBytes_length]
      · simp
  | clearCounters port =>
    show (performClearCounters port s).data.length ≤ 29
    unfold performClearCounters
    split <;> simp
  | portControl port action =>
    show (performPortControl ingress port action s).data.length ≤ 29
    unfold performPortControl
    split <;> simp
  | sendBreak port =>
    show (performSendBreak port s).data.length ≤ 29
    unfold performSendBreak
    split <;> simp
  | status | bad code | stage target image | execute operation echo | abortStage | clearStoreFlags | raiseProtection segment | restart
  | unlock code => exact of_decide_eq_true rfl

theorem examineCommand_cases (ingress : Port) (m : MgmtCommand) (s : State) :
    examineCommand ingress m s = performCommand ingress m s ∨ examineCommand ingress m s = ⟨.locked, [], s⟩ := by
  unfold examineCommand
  split
  · exact .inl rfl
  · exact .inr rfl

/-- A reply's length byte gives the bytes of its payload (R153). -/
theorem replyTelegram_whole (address source code : Byte) (result : Result) {data : List Byte} (h : data.length ≤ 29) :
    (replyTelegram address source code result data).Whole := by
  simp only [Telegram.Whole, Telegram.length, replyTelegram, List.length_append, List.length_cons, List.length_nil, BitVec.toNat_ofNat]
  omega

theorem moves_placeReply {p : Port} {t : Telegram} {s : State} (hunit : s.mgmt.unit = .idle) (hwhole : t.Whole) :
    Moves s (placeReply p t s) := by
  unfold placeReply
  split
  · next hroom => exact (Move.reply p t hunit hroom hwhole).moves
  · exact moves_count ..

theorem moves_takeCommand (ingress : Port) (source : Byte) (m : MgmtCommand) (s : State) :
    Moves s (takeCommand ingress source m s) := by
  unfold takeCommand
  split
  · next hready =>
    have hunit : s.mgmt.unit = .idle := by
      simp only [ManagementUnit.isReady, Bool.and_eq_true, decide_eq_true_eq] at hready
      exact hready.1
    dsimp only
    rcases examineCommand_cases ingress m s with h | h <;> rw [h]
    · exact (moves_performCommand ingress m s).then (moves_placeReply (performCommand_unit ingress m s hunit)
        (replyTelegram_whole _ _ _ _ (performCommand_data_length ingress m s)))
    · exact moves_placeReply hunit (replyTelegram_whole _ _ _ _ (Nat.zero_le _))
  · exact moves_count ..

theorem moves_classify (s : State) : Moves s (classify s) := by
  unfold classify
  split
  · exact .refl s
  · next i rest hqueue =>
    have hastray (h : ∀ ingress, (s.buffer i).claim ≠ .waiting ingress) : Moves s { s with classQueue := rest } :=
      (Move.astray i rest hqueue h).moves
    split
    · next ingress hclaim =>
      unfold classifyBuffer
      dsimp only
      split
      · exact (Move.discard i rest ingress hqueue hclaim).moves.then (moves_takeCommand ..)
      · exact moves_routeTelegram hqueue hclaim
    all_goals
      next hclaim => exact hastray fun ingress h => by rw [h] at hclaim; cases hclaim

/-! ## Completions at the Store Controller -/

theorem moves_programCompletes (s : State) : Moves s (programCompletes s) := by
  unfold programCompletes
  split
  · exact moves_core ⟨rfl, rfl, rfl, rfl, rfl, rfl, le_refl _⟩
  · exact .refl s

theorem moves_retireCompletes (s : State) : Moves s (retireCompletes s) := by
  unfold retireCompletes
  split
  · exact moves_core ⟨rfl, rfl, rfl, rfl, rfl, rfl, le_refl _⟩
  · exact .refl s

theorem moves_segmentErased (g : Segment) (next : Option Running) (s : State) : Moves s ((segmentErased g s).setRunning next) := by
  rw [segmentErased_setRunning]
  exact moves_core ⟨rfl, rfl, rfl, rfl, rfl, rfl, le_refl _⟩

theorem moves_eraseSegmentCompletes (s : State) : Moves s (eraseSegmentCompletes s) := by
  unfold eraseSegmentCompletes
  split
  · exact moves_segmentErased ..
  · exact .refl s

theorem moves_eraseStep (s : State) : Moves s (eraseStep s) := by
  unfold eraseStep
  split
  iterate 2 · exact moves_segmentErased ..
  · exact .refl s

theorem moves_blankCheckCompletes (s : State) : Moves s (blankCheckCompletes s) := by
  unfold blankCheckCompletes
  split
  · refine moves_core ⟨rfl, rfl, rfl, ?_, ?_, ?_, le_refl _⟩ <;> dsimp only <;> split <;> rfl
  · exact .refl s

/-! ## The transmitter's rows -/

theorem moves_arbitrationLost (p : Port) (s : State) : Moves s (arbitrationLost p s) := by
  unfold arbitrationLost
  cases htx : (s.port p).tx with
  | arbitrating a =>
    dsimp only
    split
    · exact .refl s
    · exact moves_failAttempt (by rw [htx]; exact TxState.noConfusion)
  | sending _ | idle | waitGap | breaking _ | halted => exact .refl s

theorem moves_collide (p : Port) (s : State) : Moves s (collide p s) := by
  unfold collide
  cases htx : (s.port p).tx with
  | arbitrating a | sending a =>
    dsimp only
    split
    · exact .refl s
    · exact moves_failAttempt (by rw [htx]; exact TxState.noConfusion)
  | idle | waitGap | breaking _ | halted => exact .refl s

theorem moves_driveFault (p : Port) (s : State) : Moves s (driveFault p s) := by
  unfold driveFault
  split
  · have hidle := (LineView.atDriveFault_fields (s.port p).line s.clock).1
    exact ((moves_setPort { idle := fun h => .inl (hidle.symm.trans h) }).then (moves_endUncounted p _)).then (moves_takeFault p _)
  · exact .refl s

/-- An attempt in progress completes (R47). -/
theorem moves_completeAttempt {p : Port} {a : Attempt} {s : State} (hcompleted : a.completed = false)
    (htx : (s.port p).tx = .arbitrating a ∨ (s.port p).tx = .sending a) : Moves s (completeAttempt p a s) := by
  have htx' : ((endProbation p s).port p).tx = (s.port p).tx := by simp [endProbation_eq]
  unfold completeAttempt
  dsimp only
  split
  · refine (moves_endProbation p s).then (moves_setPort { tx := .inr ⟨a, { a with completed := true }, hcompleted, rfl, rfl, rfl, ?_⟩ })
    rw [htx']
    exact htx.imp (fun h => ⟨h, .inr rfl⟩) fun h => ⟨h, rfl⟩
  · refine (moves_endProbation p s).then (Move.pop p ?_).moves
    rw [htx']
    rcases htx with h | h <;> rw [h] <;> exact TxState.noConfusion

theorem moves_attemptCompletion (p : Port) (s : State) : Moves s (attemptCompletion p s) := by
  unfold attemptCompletion
  cases htx : (s.port p).tx with
  | arbitrating a =>
    dsimp only
    split
    · exact .refl s
    · next h => exact moves_completeAttempt (Bool.not_eq_true _ ▸ h) (.inl htx)
  | sending a =>
    dsimp only
    split
    · exact .refl s
    · next h => exact moves_completeAttempt (Bool.not_eq_true _ ▸ h) (.inr htx)
  | idle | waitGap | breaking _ | halted => exact .refl s

theorem moves_breakEnd (p : Port) (s : State) : Moves s (breakEnd p s) := by
  unfold breakEnd
  cases htx : (s.port p).tx with
  | breaking since => exact (Move.rest p (by rw [htx]; exact TxState.noConfusion)).moves
  | arbitrating _ | sending _ | idle | waitGap | halted => exact .refl s

theorem moves_entryExpires (p : Port) (ref : BufferRef) (s : State) : Moves s (entryExpires p ref s) := by
  unfold entryExpires
  dsimp only
  split
  · next h =>
    simp only [Bool.and_eq_true, Bool.not_eq_true', List.any_eq_true, beq_iff_eq] at h
    obtain ⟨⟨e, he, href⟩, hsent⟩ := h
    have hexpire := (Move.expire (s := s.count p .dropStale) p ref
      (by simpa [LinePort.refs] using ⟨e, he, href⟩) (by simpa [beingSent] using hsent)).moves
    have hall := (moves_count p .dropStale s).then hexpire
    simpa using hall
  · exact .refl s

theorem moves_attemptExpires (p : Port) (s : State) : Moves s (attemptExpires p s) := by
  unfold attemptExpires
  cases htx : (s.port p).tx with
  | arbitrating a =>
    dsimp only
    split
    · exact .refl s
    · next h =>
      exact moves_setPort
        { tx := .inr ⟨a, { a with expired := true }, Bool.not_eq_true _ ▸ h, rfl, rfl, rfl, .inl ⟨htx, .inl rfl⟩⟩ }
  | sending a =>
    dsimp only
    split
    · exact .refl s
    · next h =>
      exact moves_setPort
        { tx := .inr ⟨a, { a with expired := true }, Bool.not_eq_true _ ▸ h, rfl, rfl, rfl, .inr ⟨htx, rfl⟩⟩ }
  | idle | waitGap | breaking _ | halted => exact .refl s

theorem moves_timeLimitExpires (p : Port) (s : State) : Moves s (timeLimitExpires p s) := by
  unfold timeLimitExpires
  split
  · exact (moves_abortReception (.inr rfl) s).then (moves_takeFault p _)
  all_goals exact .refl s

/-! ## Every row -/

theorem moves_whenStarted {f : State → State} {s t : State} (hf : Moves s (f s)) (h : whenStarted f s = .next t) : Moves s t := by
  cases hs : s.phase with
  | started =>
    rw [whenStarted_started hs] at h
    cases h
    exact hf
  | inReset =>
    rw [whenStarted_inReset hs] at h
    cases h
    exact .refl s

/-- Every row is a run of moves. -/
theorem exec_moves {c : Instr} {s t : State} (h : exec c s = .next t) : Moves s t := by
  match hc : commandOf c with
  | some (ingress, source, m) =>
    rw [exec_of_commandOf hc] at h
    exact moves_whenStarted (moves_takeCommand ingress source m s) h
  | none =>
    cases c with
    | classification => exact moves_whenStarted (moves_classify s) h
    | characterReceived p reception rival =>
      refine moves_whenStarted (moves_onOpenPort fun hopen => ?_) h
      split
      · exact moves_afterMissed hopen fun u _ => moves_receiveCharacter (takeRival_between p rival) u
      · exact .refl s
    | idleGap rest =>
      refine moves_whenStarted (moves_onOpenPort fun hopen => ?_) h
      dsimp only
      split
      · next hcond =>
        exact (moves_takeMissedRun hopen).onLivePort fun hopen' => moves_idleGap hopen' (staysQuiet_takeMissedRun _ _ _ _ hcond.2)
      · exact .refl s
    | shortBreak p samples =>
      refine moves_whenStarted (moves_onOpenPort fun hopen => ?_) h
      dsimp only
      split
      · exact moves_breakEnds hopen
      · exact moves_normalRunEnds hopen
      all_goals exact .refl s
    | longBreak p samples =>
      refine moves_whenStarted (moves_onOpenPort fun hopen => ?_) h
      split
      · exact moves_longBreak hopen
      · exact .refl s
    | stuckLine run order =>
      refine moves_whenStarted (moves_onOpenPort fun hopen => ?_) h
      dsimp only
      split
      · exact moves_stuckLine hopen
      · exact .refl s
    | candidateStartBit found =>
      refine moves_whenStarted (moves_onOpenPort fun hopen => ?_) h
      dsimp only
      split
      · exact .refl s
      split
      · exact moves_afterMissed hopen fun u hu => moves_setPort (tweak_line hu _ _ fun h => by cases h)
      · exact moves_afterMissed hopen fun u hu => moves_passOver hu
    | falseStart p second third fourth =>
      refine moves_whenStarted (moves_onOpenPort fun hopen => ?_) h
      split
      · exact moves_afterMissed hopen fun u hu => moves_setPort (tweak_line hu _ _ fun h => by
          rw [lineAfterFalseStart_idle] at h; cases h)
      · exact .refl s
    | telegramTimeLimitExpiry p => exact moves_whenStarted (moves_onOpenPort fun _ => moves_timeLimitExpires p s) h
    | arbitrationLost p => exact moves_whenStarted (moves_onOpenPort fun _ => moves_arbitrationLost p s) h
    | collision p => exact moves_whenStarted (moves_onOpenPort fun _ => moves_collide p s) h
    | driveFault p => exact moves_whenStarted (moves_onOpenPort fun _ => moves_driveFault p s) h
    | attemptCompletion p => exact moves_whenStarted (moves_onOpenPort fun _ => moves_attemptCompletion p s) h
    | breakEnd p => exact moves_whenStarted (moves_onOpenPort fun _ => moves_breakEnd p s) h
    | entryDeadlineExpiry p ref => exact moves_whenStarted (moves_onOpenPort fun _ => moves_entryExpires p ref s) h
    | deadlineExpiryDuringAttempt p => exact moves_whenStarted (moves_onOpenPort fun _ => moves_attemptExpires p s) h
    | stuckRunEnd p =>
      refine moves_whenStarted (moves_onOpenPort fun hopen => ?_) h
      unfold stuckRunEnd
      split
      · exact moves_setPort (tweak_line hopen _ _ fun h => by cases h)
      · exact .refl s
    | programCompletion => exact moves_whenStarted (moves_programCompletes s) h
    | retireCompletion => exact moves_whenStarted (moves_retireCompletes s) h
    | eraseSegmentCompletion => exact moves_whenStarted (moves_eraseSegmentCompletes s) h
    | segmentEraseStep => exact moves_whenStarted (moves_eraseStep s) h
    | blankCheckCompletion => exact moves_whenStarted (moves_blankCheckCompletes s) h
    | restartReset =>
      refine moves_whenStarted ?_ h
      split
      · exact (Move.reset _).moves
      · exact .refl s
    | powerOn => cases h; exact (Move.reset _).moves
    | resetPin => cases h; exact (Move.reset _).moves
    | startUp straps =>
      cases h
      split
      · exact (Move.startUp straps).moves
      · exact .refl s
    | _ => cases hc

/-- What every move keeps, every step keeps. -/
theorem step_keeps_of_move {P : State → Prop} (hmove : ∀ s t, P s → Move s t → P t) {s t : State} (hs : P s) (h : step s = .next t) :
    P t := by
  refine step_keeps (P := P) (fun u rest hu => hmove _ _ hu (.core ⟨rfl, rfl, rfl, rfl, rfl, rfl, le_refl _⟩))
    (fun u hu => hmove _ _ hu (.core ⟨rfl, rfl, rfl, rfl, rfl, rfl, Nat.le_succ _⟩)) ?_ hs h
  exact fun c u v hu hc => (exec_moves hc).keeps hmove hu

end Sys2Proof.Machine
end

section
/-! SUPPORT. The ports of the bridge: every move keeps every port in order (R6, R37, R38, R56, R140). -/

namespace Sys2Proof.Machine

/-! ## One port -/

/-- A port in order. -/
structure LinePort.Right (x : LinePort) : Prop where
  mode : x.ModeRight
  work : x.WorkRight
  profile : x.profile.Legal

theorem portsRight_iff (s : State) : PortsRight s ↔ ∀ p, (s.port p).Right :=
  ⟨fun h p => ⟨(h p).1, (h p).2.1, (h p).2.2⟩, fun h p => ⟨(h p).mode, (h p).work, (h p).profile⟩⟩

/-- What an open port needs whatever its transmitter does. -/
structure LinePort.Serving (x : LinePort) : Prop where
  mode : x.mode.isOpen = true
  rx : x.rx ≠ .deaf
  tx : x.tx ≠ .halted
  profile : x.profile.Legal

theorem LinePort.Right.serving {x : LinePort} (h : x.Right) (hopen : x.mode.isOpen = true) : x.Serving := by
  have hmode := h.mode
  rw [LinePort.ModeRight, if_pos hopen] at hmode
  exact ⟨hopen, hmode.1, hmode.2, h.profile⟩

theorem LinePort.Right.closed {x : LinePort} (h : x.Right) (hclosed : x.mode.isOpen = false) :
    x.rx = .deaf ∧ x.tx = .halted ∧ x.queue = [] ∧ x.breakPending = false ∧ x.candidate = none ∧ x.ownStart = false := by
  have hmode := h.mode
  rw [LinePort.ModeRight, hclosed] at hmode
  exact hmode

/-- A port whose transmitter is not HALTED is open (R54). -/
theorem LinePort.Right.serving_of_tx {x : LinePort} (h : x.Right) (htx : x.tx ≠ .halted) : x.Serving := by
  cases hmode : x.mode.isOpen with
  | true => exact h.serving hmode
  | false => exact absurd (h.closed hmode).2.1 htx

/-- A port whose receiver is not DEAF is open (R35). -/
theorem LinePort.Right.serving_of_rx {x : LinePort} (h : x.Right) (hrx : x.rx ≠ .deaf) : x.Serving := by
  cases hmode : x.mode.isOpen with
  | true => exact h.serving hmode
  | false => exact absurd (h.closed hmode).1 hrx

theorem LinePort.Serving.right {x : LinePort} (h : x.Serving) (hwork : x.WorkRight) : x.Right where
  mode := by
    rw [LinePort.ModeRight, if_pos h.mode]
    exact ⟨h.rx, h.tx⟩
  work := hwork
  profile := h.profile

theorem LinePort.WorkRight.congr {x y : LinePort} (h : x.WorkRight) (hidle : y.tx = .idle → x.tx = .idle)
    (hwait : y.tx = .waitGap → x.tx = .waitGap) (hdriving : y.tx.driving = true → x.tx.driving = true)
    (hbreak : y.breakPending = x.breakPending) (hqueue : y.queue.isEmpty = x.queue.isEmpty)
    (hline : y.line.idle = true → x.line.idle = true ∨ x.tx.driving = false) : y.WorkRight := by
  obtain ⟨hi, hw, hd⟩ := h
  have hwork : y.hasWork = x.hasWork := by simp only [LinePort.hasWork, hbreak, hqueue]
  refine ⟨fun h => hwork.trans (hi (hidle h)), fun h => hwork.trans (hw (hwait h)), fun h => ?_⟩
  have hx := hdriving h
  cases hy : y.line.idle with
  | false => rfl
  | true =>
    rcases hline hy with h | h
    · exact h.symm.trans (hd hx)
    · exact hx.symm.trans h

/-! ## What a move makes of a port -/

theorem RxState.unmarked_eq_deaf_iff {x : RxState} : x.unmarked = .deaf ↔ x = .deaf := by
  cases x <;> simp [RxState.unmarked]

theorem RxState.Listening.ne_deaf {x : RxState} (h : x.Listening) : x ≠ .deaf := by
  rcases h with h | h <;> rw [h] <;> exact RxState.noConfusion

theorem RxKept.deaf_iff {x y : RxState} (h : RxKept x y) : y = .deaf ↔ x = .deaf := by
  rcases h with rfl | rfl | ⟨hx, hy⟩
  · exact Iff.rfl
  · exact RxState.unmarked_eq_deaf_iff
  · exact ⟨fun h => absurd h hy.ne_deaf, fun h => absurd h hx.ne_deaf⟩

/-- What is kept of a transmitter that sends what it sent. -/
theorem TxKept.keeps {x y : TxState} (h : TxKept x y) :
    (y = .idle ↔ x = .idle) ∧ (y = .waitGap ↔ x = .waitGap) ∧ (y = .halted ↔ x = .halted)
      ∧ (y.driving = true → x.driving = true) := by
  rcases h with rfl | ⟨a, b, hcompleted, -, -, -, ⟨rfl, rfl | rfl⟩ | ⟨rfl, rfl⟩⟩
  · exact ⟨Iff.rfl, Iff.rfl, Iff.rfl, id⟩
  all_goals exact ⟨by simp, by simp, by simp, fun _ => by simp [TxState.driving, hcompleted]⟩

theorem LinePort.Right.tweak {x y : LinePort} (h : x.Right) (hy : Tweak x y) : y.Right := by
  obtain ⟨hidle, hwait, hhalted, hdriving⟩ := hy.tx.keeps
  have hwork : y.WorkRight := h.work.congr hidle.1 hwait.1 hdriving hy.breakPending (by rw [hy.queue]) hy.idle
  refine ⟨?_, hwork, by rw [hy.profile]; exact h.profile⟩
  unfold LinePort.ModeRight
  rw [hy.mode]
  split
  · next hopen =>
    have hs := h.serving hopen
    exact ⟨fun e => hs.rx (hy.rx.deaf_iff.1 e), fun e => hs.tx (hhalted.1 e)⟩
  · next hclosed =>
    have hc : x.mode.isOpen = false := Bool.not_eq_true _ ▸ hclosed
    obtain ⟨hrx, htx, hqueue, hbreak, hcandidate, hown⟩ := h.closed hc
    obtain ⟨hcandidate', hown'⟩ := hy.closed hc
    exact ⟨hy.rx.deaf_iff.2 hrx, hhalted.2 htx, hy.queue.trans hqueue, hy.breakPending.trans hbreak, hcandidate'.trans hcandidate,
      hown'.trans hown⟩

/-- The receiver of an open port between what is not DEAF. -/
theorem LinePort.Right.withRx {x : LinePort} (h : x.Right) {rx : RxState} (hx : x.rx ≠ .deaf) (hrx : rx ≠ .deaf) :
    LinePort.Right { x with rx := rx } :=
  have hs := h.serving_of_rx hx
  LinePort.Serving.right ⟨hs.mode, hrx, hs.tx, hs.profile⟩ h.work

theorem nextCharacter_keeps (s : State) (x : TxState) :
    (nextCharacter s x = .idle ↔ x = .idle) ∧ (nextCharacter s x = .waitGap ↔ x = .waitGap)
      ∧ (nextCharacter s x = .halted ↔ x = .halted) ∧ (nextCharacter s x).driving = x.driving := by
  cases x with
  | arbitrating a => unfold nextCharacter; dsimp only; split <;> simp [TxState.driving]
  | sending a => unfold nextCharacter; dsimp only; split <;> simp [TxState.driving]
  | idle | waitGap | breaking _ | halted => simp [nextCharacter, TxState.driving]

theorem LinePort.Right.advance {x : LinePort} (h : x.Right) (s : State) : LinePort.Right { x with tx := nextCharacter s x.tx } := by
  obtain ⟨hidle, hwait, hhalted, hdriving⟩ := nextCharacter_keeps s x.tx
  refine ⟨?_, h.work.congr hidle.1 hwait.1 (by rw [hdriving]; exact id) rfl rfl .inl, h.profile⟩
  have hmode := h.mode
  unfold LinePort.ModeRight at hmode ⊢
  split
  · next hopen =>
    rw [if_pos hopen] at hmode
    exact ⟨hmode.1, fun e => hmode.2 (hhalted.1 e)⟩
  · next hclosed =>
    rw [if_neg hclosed] at hmode
    obtain ⟨hrx, htx, hrest⟩ := hmode
    exact ⟨hrx, hhalted.2 htx, hrest⟩

/-- A transmitter at rest is in order whatever it did before (R38). -/
theorem right_restTransmitter {p : Port} {s : State} (h : (s.port p).Serving) : ((restTransmitter p s).port p).Right := by
  rw [restTransmitter, State.port_setPort_same]
  refine LinePort.Serving.right ⟨h.mode, h.rx, ?_, h.profile⟩ ?_
  · dsimp only; split <;> exact TxState.noConfusion
  · unfold LinePort.WorkRight
    dsimp only
    cases hwork : (s.port p).hasWork with
    | true => exact ⟨fun h => (by cases h), fun _ => hwork, fun h => by cases h⟩
    | false => exact ⟨fun _ => hwork, fun h => (by cases h), fun h => by cases h⟩

/-- A transmitter that begins drives its line, which is not idle any more (R6, R39). -/
theorem right_beginSending {p : Port} {s : State} (h : (s.port p).Serving) (hwork : (s.port p).hasWork = true) :
    ((beginSending p s).port p).Right := by
  unfold beginSending
  dsimp only
  cases hbreak : (s.port p).breakPending with
  | true =>
    rw [if_pos rfl, State.port_setPort_same]
    exact LinePort.Serving.right ⟨h.mode, h.rx, TxState.noConfusion, h.profile⟩
      ⟨fun h => (by cases h), fun h => (by cases h), fun _ => rfl⟩
  | false =>
    rw [if_neg Bool.false_ne_true]
    cases hqueue : (s.port p).queue with
    | nil => simp [LinePort.hasWork, hbreak, hqueue] at hwork
    | cons e rest =>
      rw [State.port_setPort_same]
      exact LinePort.Serving.right ⟨h.mode, h.rx, TxState.noConfusion, h.profile⟩
        ⟨fun h => (by cases h), fun h => (by cases h), fun _ => rfl⟩

/-- Work that appears finds its way (R38). -/
theorem right_workAppears {p : Port} {s : State} (h : (s.port p).Serving) (hwork : (s.port p).hasWork = true)
    (hdriving : (s.port p).tx.driving = true → (s.port p).line.idle = false) : ((workAppears p s).port p).Right := by
  unfold workAppears
  cases htx : (s.port p).tx with
  | idle =>
    dsimp only
    split
    · exact right_beginSending h hwork
    · rw [State.port_setPort_same]
      exact LinePort.Serving.right ⟨h.mode, h.rx, TxState.noConfusion, h.profile⟩
        ⟨fun h => (by cases h), fun _ => hwork, fun h => by cases h⟩
  | halted => exact absurd htx h.tx
  | waitGap | arbitrating _ | sending _ | breaking _ =>
    exact h.right ⟨fun h => (by rw [htx] at h; cases h), fun _ => hwork, hdriving⟩

theorem right_appendEntry {p : Port} {ref : BufferRef} {s : State} (h : (s.port p).Right) (hopen : (s.port p).mode.isOpen = true) :
    ((appendEntry p ref s).port p).Right := by
  have hs := h.serving hopen
  refine right_workAppears ?_ ?_ ?_ <;> rw [State.port_setPort_same]
  · exact ⟨hs.mode, hs.rx, hs.tx, hs.profile⟩
  · simp [LinePort.hasWork]
  · exact h.work.2.2

/-- A field replaced by the value it has. -/
theorem LinePort.withQueue_self {x : LinePort} {queue : List EgressEntry} (h : queue = x.queue) : { x with queue := queue } = x := by
  rw [h]

theorem LinePort.withTx_self {x : LinePort} {tx : TxState} (h : tx = x.tx) : { x with tx := tx } = x := by
  rw [h]

theorem removeHead_port (p : Port) (s : State) : (removeHead p s).port p = { s.port p with queue := (s.port p).queue.tail } := by
  unfold removeHead
  cases hqueue : (s.port p).queue with
  | nil => exact (LinePort.withQueue_self (by rw [hqueue]; rfl)).symm
  | cons e rest => simp

theorem legal_default (rate : RateStrap) : (Profile.default rate).Legal := by
  cases rate <;> (unfold Profile.Legal; decide)

/-- A decoded profile is legal (R126, R140). -/
theorem legal_decodeProfile {i : Image} {f : Profile} (h : decodeProfile i = some f) : f.Legal := by
  unfold decodeProfile at h
  split at h
  · cases h
  · split at h
    · next hfits =>
      cases h
      obtain ⟨-, -, -, hr1, hr2, hh1, hh2, ht1, ht2⟩ := hfits
      exact ⟨hr1, hr2, hh1, hh2, ht1, ht2⟩
    · cases h

theorem legal_loadProfile (r : RouteStore) (rate : RateStrap) (p : Port) : (loadProfile r rate p).Legal := by
  unfold loadProfile loadSetting
  cases h : (configImage r (profileSlot p)).bind decodeProfile with
  | none => exact legal_default rate
  | some f =>
    obtain ⟨i, -, hi⟩ := Option.bind_eq_some_iff.1 h
    exact legal_decodeProfile hi

theorem right_started {f : Profile} (hf : f.Legal) (now : Nat) : (LinePort.started f now).Right := by
  cases he : f.enabled with
  | true =>
    have hstarted : LinePort.started f now =
        ⟨.running, .search, none, false, LineView.fresh now, .idle, false, [], f, Counters.zero⟩ := by simp [LinePort.started, he]
    rw [hstarted]
    exact LinePort.Serving.right ⟨rfl, RxState.noConfusion, TxState.noConfusion, hf⟩
      ⟨fun _ => rfl, fun h => (by cases h), fun h => by cases h⟩
  | false =>
    have hstarted : LinePort.started f now =
        ⟨.off, .deaf, none, false, LineView.unmeasured, .halted, false, [], f, Counters.zero⟩ := by simp [LinePort.started, he]
    rw [hstarted]
    exact ⟨⟨rfl, rfl, rfl, rfl, rfl, rfl⟩, ⟨fun h => (by cases h), fun h => (by cases h), fun h => by cases h⟩, hf⟩

theorem right_inReset : LinePort.inReset.Right :=
  ⟨⟨rfl, rfl, rfl, rfl, rfl, rfl⟩, ⟨fun h => (by cases h), fun h => (by cases h), fun h => by cases h⟩, legal_default _⟩

/-! ## A port closed -/

/-- A closed port as its closing leaves it, in full but for its counters (R62). -/
theorem closePort_port_eq (p : Port) (mode : PortMode) (s : State) :
    ∃ v : Counters, (closePort p mode s).port p =
      { s.port p with
        mode := mode, rx := .deaf, candidate := none, ownStart := false, line := LineView.unmeasured
        tx := .halted, breakPending := false, queue := [], counters := v } := by
  unfold closePort
  dsimp only
  generalize hclosing : State.setPort _ p _ = u
  obtain ⟨v, hport, -⟩ := flush_port p u
  refine ⟨v, hport.trans ?_⟩
  rw [← hclosing, State.port_setPort_same]
  cases (s.port p).rx <;> simp

theorem right_closed {x : LinePort} (hmode : x.mode.isOpen = false) (hrx : x.rx = .deaf) (htx : x.tx = .halted) (hqueue : x.queue = [])
    (hbreak : x.breakPending = false) (hcandidate : x.candidate = none) (hown : x.ownStart = false) (hprofile : x.profile.Legal) :
    x.Right where
  mode := by
    rw [LinePort.ModeRight, hmode]
    exact ⟨hrx, htx, hqueue, hbreak, hcandidate, hown⟩
  work := by
    unfold LinePort.WorkRight
    rw [htx]
    exact ⟨fun h => (by cases h), fun h => (by cases h), fun h => by cases h⟩
  profile := hprofile

theorem right_closePort {p : Port} {mode : PortMode} {s : State} (h : (s.port p).Right) (hmode : mode.isOpen = false) :
    ((closePort p mode s).port p).Right := by
  obtain ⟨v, hport⟩ := closePort_port_eq p mode s
  rw [hport]
  exact right_closed hmode rfl rfl rfl rfl rfl rfl h.profile

theorem right_openPort {p : Port} {mode : PortMode} {s : State} (h : (s.port p).Right) (hclosed : (s.port p).mode.isOpen = false)
    (hmode : mode.isOpen = true) : ((openPort p mode s).port p).Right := by
  obtain ⟨-, -, hqueue, -⟩ := h.closed hclosed
  rw [openPort, State.port_setPort_same]
  refine LinePort.Serving.right ⟨hmode, RxState.noConfusion, TxState.noConfusion, h.profile⟩ ⟨fun _ => ?_, fun h => (by cases h), fun h => by cases h⟩
  simp [LinePort.hasWork, hqueue]

/-! ## An entry that expires -/

theorem workGone_port (p : Port) (s : State) :
    (workGone p s).port p = { s.port p with
      tx := if (s.port p).tx = .waitGap then restState (s.port p).hasWork else (s.port p).tx } := by
  unfold workGone
  cases htx : (s.port p).tx with
  | waitGap =>
    cases hwork : (s.port p).hasWork with
    | true => exact (LinePort.withTx_self (x := s.port p) htx.symm).symm
    | false => simp [restState]
  | idle | arbitrating _ | sending _ | breaking _ | halted =>
    exact (LinePort.withTx_self (x := s.port p) ((if_neg TxState.noConfusion).trans htx.symm)).symm

/-- The queue that has lost an entry leaves the transmitter with work, or at rest without (R38, R50). -/
theorem right_workGone {p : Port} {s : State} (h : (s.port p).Serving) (hidle : (s.port p).tx = .idle → (s.port p).hasWork = false)
    (hdriving : (s.port p).tx.driving = true → (s.port p).line.idle = false) : ((workGone p s).port p).Right := by
  rw [workGone_port]
  by_cases hwait : (s.port p).tx = .waitGap
  · rw [if_pos hwait]
    cases hwork : (s.port p).hasWork with
    | true =>
      exact LinePort.Serving.right ⟨h.mode, h.rx, TxState.noConfusion, h.profile⟩
        ⟨fun h => (by cases h), fun _ => hwork, fun h => by cases h⟩
    | false =>
      exact LinePort.Serving.right ⟨h.mode, h.rx, TxState.noConfusion, h.profile⟩
        ⟨fun _ => hwork, fun h => (by cases h), fun h => by cases h⟩
  · rw [if_neg hwait]
    exact LinePort.Serving.right ⟨h.mode, h.rx, h.tx, h.profile⟩ ⟨hidle, fun e => absurd e hwait, hdriving⟩

/-! ## The ports of the bridge -/

theorem portsRight_of_port {p : Port} {s t : State} (h : PortsRight s) (hothers : OthersKept p s t) (hp : (t.port p).Right) :
    PortsRight t := by
  rw [portsRight_iff] at h ⊢
  intro q
  by_cases hq : q = p
  · exact hq ▸ hp
  · rw [hothers q hq]
    exact h q

theorem PortsRight.right {s : State} (h : PortsRight s) (p : Port) : (s.port p).Right := (portsRight_iff s).1 h p

theorem PortsRight.congr {s t : State} (h : PortsRight s) (hports : t.ports = s.ports) : PortsRight t := by
  unfold PortsRight State.port
  rw [hports]
  exact h

theorem portsRight_setPort {p : Port} {s : State} {y : LinePort} (h : PortsRight s) (hy : y.Right) : PortsRight (s.setPort p y) :=
  portsRight_of_port h (onlyLine_setPort p s y).othersKept (by rw [State.port_setPort_same]; exact hy)

theorem portsRight_count {s : State} (h : PortsRight s) (p : Port) (c : CounterName) : PortsRight (s.count p c) :=
  portsRight_setPort h ((h.right p).tweak {})

theorem portsRight_appendEntry {p : Port} {ref : BufferRef} {s : State} (h : PortsRight s) (hroom : (s.port p).hasRoom = true) :
    PortsRight (appendEntry p ref s) := by
  simp only [LinePort.hasRoom, Bool.and_eq_true] at hroom
  exact portsRight_of_port h (onlyLine_appendEntry p ref s).othersKept (right_appendEntry (h.right p) hroom.1)

theorem portsRight_enqueueOn {i : Fin Config.poolSize} {s : State} {p : Port} (h : PortsRight s) : PortsRight (enqueueOn i s p) := by
  unfold enqueueOn
  split
  · next hroom =>
    dsimp only
    split
    · exact portsRight_appendEntry (h.congr rfl) hroom
    all_goals exact portsRight_appendEntry h hroom
  · exact portsRight_count h _ _

theorem portsRight_enqueue {i : Fin Config.poolSize} {ingress : Port} {t : Telegram} {set : PortSet} {s : State} (h : PortsRight s) :
    PortsRight (enqueue i ingress t set s) := by
  have hplaced : ∀ (ports : List Port) (u : State), PortsRight u → PortsRight (ports.foldl (enqueueOn i) u) := by
    intro ports
    induction ports with
    | nil => exact fun _ hu => hu
    | cons p rest ih => exact fun u hu => ih _ (portsRight_enqueueOn hu)
  have hall := hplaced set.ports (s.setBuffer i ⟨.held ingress 0, t⟩) (h.congr rfl)
  unfold enqueue
  dsimp only
  split
  · exact hall.congr rfl
  · exact hall

theorem portsRight_startUp (straps : Straps) (s : State) : PortsRight (startUp straps s) := by
  rw [portsRight_iff]
  intro p
  rw [startUp_port]
  exact right_started (legal_loadProfile ..) _

theorem portsRight_enterReset (cause : Cause) (s : State) : PortsRight (enterReset cause s) := by
  rw [portsRight_iff]
  intro p
  rw [enterReset_port]
  exact right_inReset

/-- Every move keeps every port in order. -/
theorem Move.portsRight {s t : State} (h : PortsRight s) (hmove : Move s t) : PortsRight t := by
  cases hmove with
  | core hsame => exact h.congr hsame.ports
  | tweak p y hy => exact portsRight_setPort h ((h.right p).tweak hy)
  | advance p => exact portsRight_setPort h ((h.right p).advance s)
  | drop p r y hrx hy =>
    exact portsRight_setPort (s := s.freeBuffer r.buffer) (h.congr rfl)
      ((h.right p).withRx (by rw [hrx]; exact RxState.noConfusion) hy.ne_deaf)
  | header p i data r hrx hfree hbuffer hr =>
    exact portsRight_setPort (s := s.setBuffer i _) (h.congr rfl) ((h.right p).withRx hrx.ne_deaf RxState.noConfusion)
  | store p r r' t hrx hbuffer hfaithful =>
    exact portsRight_setPort (s := s.setBuffer r.buffer _) (h.congr rfl)
      ((h.right p).withRx (by rw [hrx]; exact RxState.noConfusion) RxState.noConfusion)
  | accept p r hrx hwhole =>
    exact (portsRight_setPort h ((h.right p).withRx (rx := .search) (by rw [hrx]; exact RxState.noConfusion) RxState.noConfusion)).congr rfl
  | rest p htx =>
    exact portsRight_of_port h (onlyLine_restTransmitter p s).othersKept (right_restTransmitter ((h.right p).serving_of_tx htx))
  | pop p htx =>
    have hs := (h.right p).serving_of_tx htx
    refine portsRight_of_port h ((onlyLine_removeHead p s).trans (onlyLine_restTransmitter p _)).othersKept (right_restTransmitter ?_)
    rw [removeHead_port]
    exact ⟨hs.mode, hs.rx, hs.tx, hs.profile⟩
  | retry p e rest htx hqueue hlimit =>
    have hs := (h.right p).serving_of_tx htx
    refine portsRight_of_port h ((onlyLine_setPort p s _).trans (onlyLine_restTransmitter p _)).othersKept (right_restTransmitter ?_)
    rw [State.port_setPort_same]
    exact ⟨hs.mode, hs.rx, hs.tx, hs.profile⟩
  | begin p htx =>
    exact portsRight_of_port h (onlyLine_beginSending p s).othersKept
      (right_beginSending ((h.right p).serving_of_tx (by rw [htx]; exact TxState.noConfusion)) ((h.right p).work.2.1 htx))
  | expire p ref hmem hsent =>
    have hs : (s.port p).Serving := by
      cases hmode : (s.port p).mode.isOpen with
      | true => exact (h.right p).serving hmode
      | false =>
        obtain ⟨-, -, hqueue, -⟩ := (h.right p).closed hmode
        simp [LinePort.refs, hqueue] at hmem
    refine portsRight_of_port h
      (((onlyLine_setPort p s _).trans (onlyLine_release p _ ref)).trans (onlyLine_workGone p _)).othersKept (right_workGone ?_ ?_ ?_) <;>
      rw [State.release_port, State.port_setPort_same]
    · exact ⟨hs.mode, hs.rx, hs.tx, hs.profile⟩
    · intro hidle
      have hwork := (h.right p).work.1 hidle
      simp only [LinePort.hasWork, Bool.or_eq_false_iff, Bool.not_eq_false', List.isEmpty_iff] at hwork ⊢
      exact ⟨hwork.1, by rw [hwork.2]; rfl⟩
    · exact (h.right p).work.2.2
  | requestBreak p hopen =>
    have hs := (h.right p).serving hopen
    refine portsRight_of_port h ((onlyLine_setPort p s _).trans (onlyLine_workAppears p _)).othersKept (right_workAppears ?_ ?_ ?_) <;>
      rw [State.port_setPort_same]
    · exact ⟨hs.mode, hs.rx, hs.tx, hs.profile⟩
    · simp [LinePort.hasWork]
    · exact (h.right p).work.2.2
  | reply p t hunit hroom hwhole => exact portsRight_appendEntry (h.congr rfl) hroom
  | discard i rest ingress hqueue hclaim => exact h.congr rfl
  | forward i rest ingress t set hqueue hclaim hset hcontrol hpayload => exact portsRight_enqueue (h.congr rfl)
  | astray i rest hqueue hclaim => exact h.congr rfl
  | close p mode hopen hmode =>
    exact portsRight_of_port h (onlyLine_closePort p mode s).othersKept (right_closePort (h.right p) hmode)
  | opens p mode hclosed hmode =>
    exact portsRight_of_port h (onlyLine_openPort p mode s).othersKept (right_openPort (h.right p) hclosed hmode)
  | reset cause => exact portsRight_enterReset cause s
  | startUp straps => exact portsRight_startUp straps s

/-- Settles O56: every row is a run of moves, and every move keeps the ports in order. -/
theorem stepKeepsPortsRight : Obligations.StepKeepsPortsRight :=
  fun _ _ hs h => step_keeps_of_move (fun _ _ => Move.portsRight) hs h

end Sys2Proof.Machine
end

section
/-! SUPPORT. Buffers, queues and references: every move keeps each buffer claimed by exactly what holds it (R37, R70, R74, R76, R77, R151). -/

namespace Sys2Proof.Machine

/-! ## The entries that name a buffer -/

theorem naming_congr {s t : State} (h : ∀ p, (t.port p).refs = (s.port p).refs) (ref : BufferRef) : naming t ref = naming s ref := by
  simp only [naming, h]

/-- Where one port's queue changes, the entries that name a buffer change by that port's. -/
theorem naming_of_port {p : Port} {s t : State} (h : OthersKept p s t) (ref : BufferRef) :
    naming t ref + (s.port p).refs.count ref = naming s ref + (t.port p).refs.count ref := by
  have hother (q : Port) (hq : q ≠ p) : (t.port q).refs = (s.port q).refs := by rw [h q hq]
  unfold naming
  cases p
  · rw [hother .b (by decide), hother .c (by decide)]; omega
  · rw [hother .a (by decide), hother .c (by decide)]; omega
  · rw [hother .a (by decide), hother .b (by decide)]; omega

theorem count_le_naming (s : State) (p : Port) (ref : BufferRef) : (s.port p).refs.count ref ≤ naming s ref := by
  unfold naming
  cases p <;> omega

theorem naming_pos {s : State} {p : Port} {ref : BufferRef} (h : ref ∈ (s.port p).refs) : 1 ≤ naming s ref :=
  (List.one_le_count_iff.2 h).trans (count_le_naming s p ref)

theorem not_mem_refs {s : State} {ref : BufferRef} (h : naming s ref = 0) (p : Port) : ref ∉ (s.port p).refs := by
  intro hmem
  have := naming_pos hmem
  omega

/-- A buffer that its ingress port does not send is named by two entries at most (R76). -/
theorem naming_le_two {s : State} {ingress : Port} {ref : BufferRef} (hnodup : ∀ p, (s.port p).refs.Nodup)
    (h : ref ∉ (s.port ingress).refs) : naming s ref ≤ 2 := by
  have hone (p : Port) := List.nodup_iff_count_le_one.1 (hnodup p) ref
  have hzero := List.count_eq_zero_of_not_mem h
  have ha := hone .a
  have hb := hone .b
  have hc := hone .c
  unfold naming
  cases ingress <;> omega

/-! ## The claims on a buffer -/

/-- What a claim speaks of. -/
theorem claimRight_congr {s t : State} {i : Fin Config.poolSize} {c : Claim} (h : claimRight s i c)
    (hqueue : i ∈ t.classQueue ↔ i ∈ s.classQueue) (hnaming : naming t (.pool i) = naming s (.pool i))
    (hrx : ∀ p, (t.port p).rx.buffer = some i ↔ (s.port p).rx.buffer = some i)
    (hrefs : ∀ p, BufferRef.pool i ∈ (t.port p).refs → BufferRef.pool i ∈ (s.port p).refs) : claimRight t i c := by
  cases c with
  | free | filling _ | waiting _ =>
    unfold claimRight at h ⊢
    simp only [hqueue, hnaming, hrx, ne_eq]
    exact h
  | held ingress refs =>
    obtain ⟨hq, hn, h1, h2, hingress, hnone⟩ := h
    exact ⟨fun e => hq (hqueue.1 e), hnaming.trans hn, h1, h2, fun e => hingress (hrefs _ e), fun p e => hnone p ((hrx p).1 e)⟩

/-- A buffer that a receiver fills is claimed by it (R70). -/
theorem BuffersRight.filling {s : State} (h : BuffersRight s) {p : Port} {i : Fin Config.poolSize} (hrx : (s.port p).rx.buffer = some i) :
    (s.buffer i).claim = .filling p := by
  have hclaim := h.2 i
  cases hc : (s.buffer i).claim with
  | filling owner =>
    rw [hc] at hclaim
    rw [(hclaim.2.2 p).1 hrx]
  | free | waiting _ => rw [hc] at hclaim; exact absurd hrx (hclaim.2.2 p)
  | held _ _ => rw [hc] at hclaim; exact absurd hrx (hclaim.2.2.2.2.2 p)

/-- A buffer in the Classification Queue is WAITING (R74). -/
theorem BuffersRight.waiting {s : State} (h : BuffersRight s) {i : Fin Config.poolSize} (hmem : i ∈ s.classQueue) :
    ∃ ingress, (s.buffer i).claim = .waiting ingress := by
  have hclaim := h.2 i
  cases hc : (s.buffer i).claim with
  | waiting ingress => exact ⟨ingress, rfl⟩
  | free | filling _ | held _ _ => rw [hc] at hclaim; exact absurd hmem hclaim.1

/-- A buffer that an entry names is HELD (R76). -/
theorem BuffersRight.held {s : State} (h : BuffersRight s) {p : Port} {i : Fin Config.poolSize}
    (hmem : BufferRef.pool i ∈ (s.port p).refs) : ∃ ingress refs, (s.buffer i).claim = .held ingress refs := by
  have hclaim := h.2 i
  have hpos := naming_pos hmem
  cases hc : (s.buffer i).claim with
  | held ingress refs => exact ⟨ingress, refs, rfl⟩
  | free | filling _ | waiting _ =>
    rw [hc] at hclaim
    have := hclaim.2.1
    omega

/-! ## The accounts of the bridge -/

/-- Buffers and references, without what the transmitters do with them. -/
structure Accounts (s : State) : Prop where
  buffers : BuffersRight s
  reply : ReplyRight s
  room : ∀ p, (s.port p).queue.length ≤ 12
  nodup : ∀ p, (s.port p).refs.Nodup

theorem replyRight_congr {s t : State} (h : ReplyRight s) (hunit : t.mgmt.unit = s.mgmt.unit) (hreply : t.mgmt.reply = s.mgmt.reply)
    (hport : t.mgmt.replyPort = s.mgmt.replyPort) (hnaming : naming t .reply = naming s .reply)
    (hrefs : ∀ p, BufferRef.reply ∈ (s.port p).refs → BufferRef.reply ∈ (t.port p).refs) : ReplyRight t := by
  unfold ReplyRight at h ⊢
  rw [hunit, hreply, hport, hnaming]
  split
  · next hr =>
    rw [hr] at h
    exact h
  · next r hr =>
    rw [hr] at h
    obtain ⟨hu, hn, hp⟩ := h
    refine ⟨hu, hn, ?_⟩
    split
    · next p hp' =>
      rw [hp'] at hp
      exact hrefs p hp
    · next hp' =>
      rw [hp'] at hp
      exact hp

/-- The accounts speak of references, receptions, claims, the Classification Queue and the reply. -/
theorem Accounts.congr {s t : State} (h : Accounts s) (hrefs : ∀ p, (t.port p).refs = (s.port p).refs)
    (hrx : ∀ p, (t.port p).rx.buffer = (s.port p).rx.buffer) (hclaim : ∀ i, (t.buffer i).claim = (s.buffer i).claim)
    (hqueue : t.classQueue = s.classQueue) (hunit : t.mgmt.unit = s.mgmt.unit) (hreply : t.mgmt.reply = s.mgmt.reply)
    (hport : t.mgmt.replyPort = s.mgmt.replyPort) : Accounts t where
  buffers := by
    refine ⟨by rw [hqueue]; exact h.buffers.1, fun i => ?_⟩
    rw [hclaim]
    exact claimRight_congr (h.buffers.2 i) (by rw [hqueue]) (naming_congr hrefs _) (fun p => by rw [hrx]) fun p => by rw [hrefs]; exact id
  reply := replyRight_congr h.reply hunit hreply hport (naming_congr hrefs _) fun p => by rw [hrefs]; exact id
  room := fun p => by
    have hlength := congrArg List.length (hrefs p)
    simp only [LinePort.refs, List.length_map] at hlength
    rw [hlength]
    exact h.room p
  nodup := fun p => by rw [hrefs]; exact h.nodup p

theorem refs_setPort {s : State} {p : Port} {y : LinePort} (h : y.refs = (s.port p).refs) (q : Port) :
    ((s.setPort p y).port q).refs = (s.port q).refs := by
  by_cases hq : q = p
  · subst hq
    rw [State.port_setPort_same, h]
  · rw [State.port_setPort_ne _ _ hq]

/-- A port replaced by one with the same references and the same reception. -/
theorem Accounts.setPort {s : State} (h : Accounts s) {p : Port} {y : LinePort} (hrefs : y.refs = (s.port p).refs)
    (hrx : y.rx.buffer = (s.port p).rx.buffer) : Accounts (s.setPort p y) := by
  refine h.congr (refs_setPort hrefs) (fun q => ?_) (fun _ => rfl) rfl rfl rfl rfl
  by_cases hq : q = p
  · subst hq
    rw [State.port_setPort_same, hrx]
  · rw [State.port_setPort_ne _ _ hq]

/-! ## Reception -/

theorem RxState.Listening.buffer_none {x : RxState} (h : x.Listening) : x.buffer = none := by
  rcases h with h | h <;> rw [h] <;> rfl

theorem RxKept.buffer_eq {x y : RxState} (h : RxKept x y) : y.buffer = x.buffer := by
  rcases h with rfl | rfl | ⟨hx, hy⟩
  · rfl
  · cases x <;> rfl
  · rw [hy.buffer_none, hx.buffer_none]

theorem length_queue_of_refs {x y : LinePort} (h : y.refs = x.refs) : y.queue.length = x.queue.length := by
  have hlength := congrArg List.length h
  simpa only [LinePort.refs, List.length_map] using hlength

/-- Where the account of one buffer changes, and no other, the accounts are in order if that one is. -/
theorem Accounts.at_buffer {s t : State} (h : Accounts s) (i : Fin Config.poolSize)
    (hcount : ∀ p ref, ref ≠ .pool i → (t.port p).refs.count ref = (s.port p).refs.count ref)
    (hrx : ∀ p j, j ≠ i → ((t.port p).rx.buffer = some j ↔ (s.port p).rx.buffer = some j))
    (hclaim : ∀ j, j ≠ i → (t.buffer j).claim = (s.buffer j).claim) (hqueue : ∀ j, j ≠ i → (j ∈ t.classQueue ↔ j ∈ s.classQueue))
    (hqueueNodup : t.classQueue.Nodup) (hi : claimRight t i (t.buffer i).claim) (hroom : ∀ p, (t.port p).queue.length ≤ 12)
    (hnodup : ∀ p, (t.port p).refs.Nodup) (hunit : t.mgmt.unit = s.mgmt.unit) (hreply : t.mgmt.reply = s.mgmt.reply)
    (hport : t.mgmt.replyPort = s.mgmt.replyPort) : Accounts t := by
  have hmem (p : Port) (ref : BufferRef) (hne : ref ≠ .pool i) : ref ∈ (t.port p).refs ↔ ref ∈ (s.port p).refs := by
    rw [← List.one_le_count_iff, ← List.one_le_count_iff, hcount p ref hne]
  have hnaming (ref : BufferRef) (hne : ref ≠ .pool i) : naming t ref = naming s ref := by
    simp only [naming, hcount _ ref hne]
  refine ⟨⟨hqueueNodup, fun j => ?_⟩, ?_, hroom, hnodup⟩
  · by_cases hj : j = i
    · exact hj ▸ hi
    · have hne : BufferRef.pool j ≠ .pool i := fun e => hj (BufferRef.pool.inj e)
      rw [hclaim j hj]
      exact claimRight_congr (h.buffers.2 j) (hqueue j hj) (hnaming _ hne) (fun p => hrx p j hj) fun p => (hmem p _ hne).1
  · exact replyRight_congr h.reply hunit hreply hport (hnaming _ BufferRef.noConfusion) fun p => (hmem p _ BufferRef.noConfusion).2

/-- The same where no queue changes. -/
theorem Accounts.at_buffer_of_refs {s t : State} (h : Accounts s) (i : Fin Config.poolSize)
    (hrefs : ∀ p, (t.port p).refs = (s.port p).refs)
    (hrx : ∀ p j, j ≠ i → ((t.port p).rx.buffer = some j ↔ (s.port p).rx.buffer = some j))
    (hclaim : ∀ j, j ≠ i → (t.buffer j).claim = (s.buffer j).claim) (hqueue : ∀ j, j ≠ i → (j ∈ t.classQueue ↔ j ∈ s.classQueue))
    (hqueueNodup : t.classQueue.Nodup) (hi : claimRight t i (t.buffer i).claim) (hunit : t.mgmt.unit = s.mgmt.unit)
    (hreply : t.mgmt.reply = s.mgmt.reply) (hport : t.mgmt.replyPort = s.mgmt.replyPort) : Accounts t :=
  h.at_buffer i (fun p ref _ => by rw [hrefs]) hrx hclaim hqueue hqueueNodup hi
    (fun p => by rw [length_queue_of_refs (hrefs p)]; exact h.room p) (fun p => by rw [hrefs]; exact h.nodup p) hunit hreply hport

/-- What the buffer in reception at a port says of the rest (R70). -/
theorem Accounts.filled {s : State} (h : Accounts s) {p : Port} {r : RxRecord} (hrx : (s.port p).rx = .filling r) :
    r.buffer ∉ s.classQueue ∧ naming s (.pool r.buffer) = 0 ∧ ∀ q, (s.port q).rx.buffer = some r.buffer ↔ q = p := by
  have hclaim := h.buffers.2 r.buffer
  rwa [h.buffers.filling (p := p) (by rw [hrx]; rfl)] at hclaim

/-- The receptions of the other buffers where a port's receiver lets go of one. -/
theorem rx_buffer_let_go {s : State} {p : Port} {r : RxRecord} {y : LinePort} (hrx : (s.port p).rx = .filling r) (hy : y.rx.buffer = none)
    (q : Port) (j : Fin Config.poolSize) (hj : j ≠ r.buffer) :
    ((s.setPort p y).port q).rx.buffer = some j ↔ (s.port q).rx.buffer = some j := by
  by_cases hq : q = p
  · subst hq
    rw [State.port_setPort_same, hy, hrx]
    simp [RxState.buffer, Ne.symm hj]
  · rw [State.port_setPort_ne _ _ hq]

theorem rx_buffer_let_go_same {s : State} (h : Accounts s) {p : Port} {r : RxRecord} {y : LinePort} (hrx : (s.port p).rx = .filling r)
    (hy : y.rx.buffer = none) (q : Port) : ((s.setPort p y).port q).rx.buffer ≠ some r.buffer := by
  obtain ⟨-, -, howner⟩ := h.filled hrx
  by_cases hq : q = p
  · subst hq
    rw [State.port_setPort_same, hy]
    simp
  · rw [State.port_setPort_ne _ _ hq]
    exact fun e => hq ((howner q).1 e)

/-- A telegram in reception is dropped (R29 to R33, R35). -/
theorem Accounts.drop {s : State} (h : Accounts s) {p : Port} {r : RxRecord} {y : LinePort} (hrx : (s.port p).rx = .filling r)
    (hrefs : y.refs = (s.port p).refs) (hy : y.rx.buffer = none) : Accounts ((s.freeBuffer r.buffer).setPort p y) := by
  obtain ⟨hwaits, hnamed, -⟩ := h.filled hrx
  refine h.at_buffer_of_refs r.buffer (refs_setPort (s := s.freeBuffer r.buffer) hrefs)
    (rx_buffer_let_go (s := s.freeBuffer r.buffer) hrx hy) (fun j hj => ?_) (fun _ _ => Iff.rfl) h.buffers.1 ?_ rfl rfl rfl
  · rw [State.setPort_buffer, State.buffer_freeBuffer_ne _ hj]
  · rw [State.setPort_buffer, State.buffer_freeBuffer_same]
    exact ⟨hwaits, (naming_congr (refs_setPort (s := s.freeBuffer r.buffer) hrefs) _).trans hnamed,
      fun q => rx_buffer_let_go_same h hrx hy q⟩

/-- A completed telegram waits (R28, R74). -/
theorem Accounts.accept {s : State} (h : Accounts s) {p : Port} {r : RxRecord} (hrx : (s.port p).rx = .filling r) :
    Accounts { (s.setBuffer r.buffer { s.buffer r.buffer with claim := .waiting p }).setPort p { s.port p with rx := .search } with
      classQueue := s.classQueue ++ [r.buffer] } := by
  obtain ⟨hwaits, hnamed, -⟩ := h.filled hrx
  let y : LinePort := { s.port p with rx := .search }
  refine h.at_buffer_of_refs r.buffer (refs_setPort (s := s) (y := y) rfl) (rx_buffer_let_go (y := y) hrx rfl) (fun j hj => ?_)
    (fun j hj => ?_) ?_ ?_ rfl rfl rfl
  · exact congrArg Buffer.claim (State.buffer_setBuffer_ne s _ hj)
  · simp [hj]
  · rw [List.nodup_append]
    exact ⟨h.buffers.1, List.nodup_singleton _, fun a ha b hb => by rw [List.mem_singleton.1 hb]; rintro rfl; exact hwaits ha⟩
  · have hbuffer := State.buffer_setBuffer_same s r.buffer { s.buffer r.buffer with claim := .waiting p }
    refine (congrArg (claimRight _ r.buffer) (congrArg Buffer.claim hbuffer)).mpr ?_
    exact ⟨by simp, (naming_congr (refs_setPort (s := s) (y := y) rfl) _).trans hnamed, rx_buffer_let_go_same h (y := y) hrx rfl⟩

/-- A header takes a FREE buffer (R20, R71). -/
theorem Accounts.header {s : State} (h : Accounts s) {p : Port} {i : Fin Config.poolSize} {r : RxRecord} (t : Telegram)
    (hrx : (s.port p).rx.Listening) (hfree : (s.buffer i).claim = .free) (hbuffer : r.buffer = i) :
    Accounts ((s.setBuffer i ⟨.filling p, t⟩).setPort p { s.port p with rx := .filling r }) := by
  have hclaim := h.buffers.2 i
  rw [hfree] at hclaim
  obtain ⟨hwaits, hnamed, hnone⟩ := hclaim
  let y : LinePort := { s.port p with rx := .filling r }
  have hrefs := refs_setPort (s := s.setBuffer i ⟨.filling p, t⟩) (p := p) (y := y) rfl
  refine h.at_buffer_of_refs i hrefs (fun q j hj => ?_) (fun j hj => ?_) (fun _ _ => Iff.rfl) h.buffers.1 ?_ rfl rfl rfl
  · by_cases hq : q = p
    · subst hq
      rw [State.port_setPort_same, hrx.buffer_none]
      simp [RxState.buffer, hbuffer, Ne.symm hj]
    · rw [State.port_setPort_ne _ _ hq, State.setBuffer_port]
  · rw [State.setPort_buffer, State.buffer_setBuffer_ne _ _ hj]
  · rw [State.setPort_buffer, State.buffer_setBuffer_same]
    refine ⟨hwaits, (naming_congr hrefs _).trans hnamed, fun q => ?_⟩
    by_cases hq : q = p
    · subst hq
      rw [State.port_setPort_same]
      exact ⟨fun _ => rfl, fun _ => congrArg some hbuffer⟩
    · rw [State.port_setPort_ne _ _ hq, State.setBuffer_port]
      exact ⟨fun e => absurd e (hnone q), fun e => absurd e hq⟩

/-! ## An entry that leaves its queue -/

/-- The claim of a buffer after one of its references was released (R76). -/
theorem release_claim {s : State} {i : Fin Config.poolSize} {ingress : Port} {refs : Nat}
    (h : (s.buffer i).claim = .held ingress refs) (h1 : 1 ≤ refs) :
    ((s.release (.pool i)).buffer i).claim = if refs = 1 then .free else .held ingress (refs - 1) := by
  simp only [State.release, h]
  by_cases hone : refs = 1
  · rw [if_pos (by omega), if_pos hone, State.buffer_freeBuffer_same]
  · rw [if_neg (by omega), if_neg hone, State.buffer_setBuffer_same]

theorem release_buffer_ne (s : State) {ref : BufferRef} {j : Fin Config.poolSize} (hj : ref ≠ .pool j) :
    (s.release ref).buffer j = s.buffer j := by
  unfold State.release
  split
  · next i =>
    have hne : j ≠ i := fun e => hj (by rw [e])
    split
    · split
      · exact State.buffer_freeBuffer_ne _ hne
      · exact State.buffer_setBuffer_ne _ _ hne
    all_goals rfl
  · rfl

theorem release_pool_mgmt (s : State) (i : Fin Config.poolSize) : (s.release (.pool i)).mgmt = s.mgmt := by
  simp only [State.release]
  split
  · split <;> rfl
  all_goals rfl

theorem release_classQueue (s : State) (ref : BufferRef) : (s.release ref).classQueue = s.classQueue := by
  obtain ⟨-, -, -, hqueue, -⟩ := onlyLine_iff.1 (onlyLine_release .a s ref)
  exact hqueue

/-- One entry leaves its queue, from wherever it stands, and its reference is released (R49, R50). -/
theorem Accounts.remove {s : State} (h : Accounts s) {p : Port} {ref : BufferRef} {y : LinePort} (hmem : ref ∈ (s.port p).refs)
    (hy : y.refs = (s.port p).refs.erase ref) (hrx : y.rx.buffer = (s.port p).rx.buffer) : Accounts ((s.setPort p y).release ref) := by
  have hport (q : Port) : ((s.setPort p y).release ref).port q = (s.setPort p y).port q := State.release_port ..
  have hothers : OthersKept p s ((s.setPort p y).release ref) :=
    ((onlyLine_setPort p s y).trans (onlyLine_release p _ ref)).othersKept
  have hrefsP : (((s.setPort p y).release ref).port p).refs = (s.port p).refs.erase ref := by
    rw [hport, State.port_setPort_same, hy]
  have hnamingRef : naming ((s.setPort p y).release ref) ref + 1 = naming s ref := by
    have := naming_of_port hothers ref
    have hcount := List.one_le_count_iff.2 hmem
    rw [hrefsP, List.count_erase_self] at this
    omega
  have hcount (q : Port) (other : BufferRef) (hne : other ≠ ref) :
      (((s.setPort p y).release ref).port q).refs.count other = (s.port q).refs.count other := by
    by_cases hq : q = p
    · subst hq
      rw [hrefsP, List.count_erase_of_ne hne]
    · rw [hothers q hq]
  have hreceives (q : Port) : (((s.setPort p y).release ref).port q).rx.buffer = (s.port q).rx.buffer := by
    by_cases hq : q = p
    · subst hq
      rw [hport, State.port_setPort_same, hrx]
    · rw [hothers q hq]
  have hroom (q : Port) : (((s.setPort p y).release ref).port q).queue.length ≤ 12 := by
    by_cases hq : q = p
    · subst hq
      have hle : (((s.setPort q y).release ref).port q).refs.length ≤ (s.port q).refs.length := by
        rw [hrefsP]; exact List.length_erase_le
      simp only [LinePort.refs, List.length_map] at hle
      exact hle.trans (h.room q)
    · rw [hothers q hq]; exact h.room q
  have hnodup (q : Port) : (((s.setPort p y).release ref).port q).refs.Nodup := by
    by_cases hq : q = p
    · subst hq
      rw [hrefsP]; exact (h.nodup q).erase ref
    · rw [hothers q hq]; exact h.nodup q
  cases ref with
  | pool i =>
    obtain ⟨ingress, refs, hheld⟩ := h.buffers.held hmem
    have hclaim := h.buffers.2 i
    rw [hheld] at hclaim
    obtain ⟨hwaits, hnamed, h1, h2, hingress, hnone⟩ := hclaim
    refine h.at_buffer i hcount (fun q j _ => by rw [hreceives]) (fun j hj => ?_) (fun j _ => ?_) ?_ ?_ hroom hnodup ?_ ?_ ?_
    · rw [release_buffer_ne _ (fun e => hj (BufferRef.pool.inj e).symm), State.setPort_buffer]
    · rw [release_classQueue, State.setPort_classQueue]
    · rw [release_classQueue, State.setPort_classQueue]; exact h.buffers.1
    · rw [release_claim (by simpa using hheld) h1]
      have hwaits' : i ∉ ((s.setPort p y).release (.pool i)).classQueue := by
        rw [release_classQueue, State.setPort_classQueue]; exact hwaits
      split
      · exact ⟨hwaits', by omega, fun q => by rw [hreceives]; exact hnone q⟩
      · refine ⟨hwaits', by omega, by omega, by omega, fun e => hingress ?_, fun q => by rw [hreceives]; exact hnone q⟩
        by_cases hq : ingress = p
        · subst hq
          rw [hrefsP] at e
          exact List.mem_of_mem_erase e
        · rwa [hothers ingress hq] at e
    all_goals rw [release_pool_mgmt]; rfl
  | reply =>
    have hreply := h.reply
    unfold ReplyRight at hreply
    have hone : naming s .reply = 1 := by
      have := naming_pos hmem
      split at hreply
      · omega
      · exact hreply.2.1
    refine ⟨⟨h.buffers.1, fun i => ?_⟩, ⟨rfl, rfl, by omega⟩, hroom, hnodup⟩
    refine claimRight_congr (h.buffers.2 i) Iff.rfl ?_ (fun q => by rw [hreceives]) fun q hq => ?_
    · have hne : BufferRef.pool i ≠ .reply := BufferRef.noConfusion
      simp only [naming, hcount _ _ hne]
    · rw [← List.one_le_count_iff] at hq ⊢
      rwa [hcount q _ BufferRef.noConfusion] at hq

theorem accounts_removeHead {s : State} (h : Accounts s) (p : Port) : Accounts (removeHead p s) := by
  unfold removeHead
  cases hqueue : (s.port p).queue with
  | nil => exact h
  | cons e rest =>
    refine h.remove (ref := e.ref) ?_ ?_ rfl
    · simp [LinePort.refs, hqueue]
    · simp [LinePort.refs, hqueue]

/-- The flush of a queue, entry by entry (R63). -/
theorem accounts_flush {p : Port} : ∀ (q : List EgressEntry) {s : State}, Accounts s → (s.port p).queue = q →
    Accounts (q.foldl (fun t e => (t.count p .dropPortClosed).release e.ref) (s.setPort p { s.port p with queue := [] }))
  | [], s, h, hqueue => by
    rw [LinePort.withQueue_self hqueue.symm, State.setPort_port]
    exact h
  | e :: rest, s, h, hqueue => by
    have hcounted : Accounts (s.count p .dropPortClosed) := h.setPort rfl rfl
    have hremoved : Accounts (((s.count p .dropPortClosed).setPort p
        { (s.count p .dropPortClosed).port p with queue := rest }).release e.ref) := by
      refine hcounted.remove (ref := e.ref) ?_ ?_ rfl <;> simp [LinePort.refs, hqueue]
    have hrest := accounts_flush rest (p := p) hremoved (by simp)
    simpa [State.count, State.release_setPort] using hrest

theorem accounts_closePort {s : State} (h : Accounts s) (p : Port) (mode : PortMode) : Accounts (closePort p mode s) := by
  unfold closePort flush
  dsimp only
  refine accounts_flush _ ?_ rfl
  cases hrx : (s.port p).rx with
  | filling r =>
    have hcounted : Accounts (s.count p .rxBroken) := h.setPort rfl rfl
    exact hcounted.drop (by simpa using hrx) rfl rfl
  | search | skip | deaf => exact h.setPort rfl (by simp [hrx, RxState.buffer])

/-! ## An entry placed -/

theorem beginSending_keeps (p : Port) (s : State) :
    (beginSending p s).pool = s.pool ∧ (beginSending p s).mgmt = s.mgmt
      ∧ ((beginSending p s).port p).queue = (s.port p).queue ∧ ((beginSending p s).port p).rx = (s.port p).rx := by
  unfold beginSending
  dsimp only
  split
  · exact ⟨rfl, rfl, by simp, by simp⟩
  · split
    · exact ⟨rfl, rfl, rfl, rfl⟩
    · exact ⟨rfl, rfl, by simp, by simp⟩

theorem workAppears_keeps (p : Port) (s : State) :
    (workAppears p s).pool = s.pool ∧ (workAppears p s).mgmt = s.mgmt
      ∧ ((workAppears p s).port p).queue = (s.port p).queue ∧ ((workAppears p s).port p).rx = (s.port p).rx := by
  unfold workAppears
  split
  · split
    · exact beginSending_keeps p s
    · exact ⟨rfl, rfl, by simp, by simp⟩
  all_goals exact ⟨rfl, rfl, rfl, rfl⟩

/-- What an append leaves (R79): the entry at the tail, everything else of the accounts as it was. -/
theorem appendEntry_keeps (p : Port) (ref : BufferRef) (s : State) :
    (appendEntry p ref s).pool = s.pool ∧ (appendEntry p ref s).mgmt = s.mgmt
      ∧ ((appendEntry p ref s).port p).queue = (s.port p).queue ++ [newEntry s p ref]
      ∧ ((appendEntry p ref s).port p).rx = (s.port p).rx := by
  obtain ⟨hpool, hmgmt, hqueue, hrx⟩ := workAppears_keeps p
    (s.setPort p { s.port p with queue := (s.port p).queue ++ [newEntry s p ref] })
  exact ⟨hpool, hmgmt, hqueue.trans (by rw [State.port_setPort_same]), hrx.trans (by rw [State.port_setPort_same])⟩

theorem appendEntry_refs (p : Port) (ref : BufferRef) (s : State) :
    ((appendEntry p ref s).port p).refs = (s.port p).refs ++ [ref] := by
  obtain ⟨-, -, hqueue, -⟩ := appendEntry_keeps p ref s
  simp [LinePort.refs, hqueue, newEntry]

theorem buffer_of_pool {s t : State} (h : t.pool = s.pool) (i : Fin Config.poolSize) : t.buffer i = s.buffer i := by
  rw [State.buffer, h, State.buffer]

theorem accounts_workAppears {s : State} (h : Accounts s) (p : Port) : Accounts (workAppears p s) := by
  obtain ⟨hpool, hmgmt, hqueue, hrx⟩ := workAppears_keeps p s
  have hothers := (onlyLine_workAppears p s).othersKept
  obtain ⟨-, -, -, hclass, -⟩ := onlyLine_iff.1 (onlyLine_workAppears p s)
  refine h.congr (fun q => ?_) (fun q => ?_) (fun i => by rw [buffer_of_pool hpool]) hclass (by rw [hmgmt]) (by rw [hmgmt]) (by rw [hmgmt])
  · by_cases hq : q = p
    · subst hq
      rw [LinePort.refs, LinePort.refs, hqueue]
    · rw [hothers q hq]
  · by_cases hq : q = p
    · subst hq
      rw [hrx]
    · rw [hothers q hq]

theorem appendEntry_others (p : Port) (ref : BufferRef) (s : State) : OthersKept p s (appendEntry p ref s) :=
  (onlyLine_appendEntry p ref s).othersKept

theorem appendEntry_rx (p : Port) (ref : BufferRef) (s : State) (q : Port) : ((appendEntry p ref s).port q).rx = (s.port q).rx := by
  by_cases hq : q = p
  · obtain ⟨-, -, -, hrx⟩ := appendEntry_keeps p ref s
    exact hq ▸ hrx
  · rw [appendEntry_others p ref s q hq]

theorem appendEntry_classQueue (p : Port) (ref : BufferRef) (s : State) : (appendEntry p ref s).classQueue = s.classQueue := by
  obtain ⟨-, -, -, hqueue, -⟩ := onlyLine_iff.1 (onlyLine_appendEntry p ref s)
  exact hqueue

theorem appendEntry_count {p : Port} {ref other : BufferRef} (s : State) (hne : other ≠ ref) (q : Port) :
    ((appendEntry p ref s).port q).refs.count other = (s.port q).refs.count other := by
  by_cases hq : q = p
  · subst hq
    rw [appendEntry_refs, List.count_append, List.count_eq_zero_of_not_mem (l := [ref]) (by simpa using hne), Nat.add_zero]
  · rw [appendEntry_others p ref s q hq]

theorem naming_appendEntry (p : Port) (ref : BufferRef) (s : State) : naming (appendEntry p ref s) ref = naming s ref + 1 := by
  have h := naming_of_port (appendEntry_others p ref s) ref
  rw [appendEntry_refs, List.count_append, List.count_singleton_self] at h
  omega

theorem naming_appendEntry_ne {p : Port} {ref other : BufferRef} (s : State) (hne : other ≠ ref) :
    naming (appendEntry p ref s) other = naming s other := by
  simp only [naming, appendEntry_count s hne]

theorem appendEntry_room {p : Port} {ref : BufferRef} {s : State} (h : ∀ q, (s.port q).queue.length ≤ 12)
    (hroom : (s.port p).hasRoom = true) (q : Port) : ((appendEntry p ref s).port q).queue.length ≤ 12 := by
  by_cases hq : q = p
  · subst hq
    obtain ⟨-, -, hqueue, -⟩ := appendEntry_keeps q ref s
    rw [LinePort.hasRoom, Bool.and_eq_true] at hroom
    rw [hqueue, List.length_append, List.length_singleton]
    exact of_decide_eq_true hroom.2
  · rw [appendEntry_others p ref s q hq]
    exact h q

theorem appendEntry_nodup {p : Port} {ref : BufferRef} {s : State} (h : ∀ q, (s.port q).refs.Nodup) (hnew : ref ∉ (s.port p).refs)
    (q : Port) : ((appendEntry p ref s).port q).refs.Nodup := by
  by_cases hq : q = p
  · subst hq
    rw [appendEntry_refs, List.nodup_append]
    exact ⟨h q, List.nodup_singleton _, fun a ha b hb => by rw [List.mem_singleton.1 hb]; rintro rfl; exact hnew ha⟩
  · rw [appendEntry_others p ref s q hq]
    exact h q

/-- While the unit is IDLE there is no reply and no entry that names one (R151). -/
theorem ReplyRight.none_of_idle {s : State} (h : ReplyRight s) (hunit : s.mgmt.unit = .idle) :
    s.mgmt.reply = none ∧ naming s .reply = 0 := by
  unfold ReplyRight at h
  cases hreply : s.mgmt.reply with
  | none =>
    rw [hreply] at h
    exact ⟨rfl, h.2.2⟩
  | some t =>
    rw [hreply] at h
    rw [h.1] at hunit
    cases hunit

/-- A reply placed (R83, R151). -/
theorem Accounts.placed {s : State} (h : Accounts s) {p : Port} {t : Telegram} (hunit : s.mgmt.unit = .idle)
    (hroom : (s.port p).hasRoom = true) :
    Accounts (appendEntry p .reply { s with mgmt := { s.mgmt with unit := .replyPending, reply := some t, replyPort := some p } }) := by
  obtain ⟨-, hnone⟩ := h.reply.none_of_idle hunit
  let u : State := { s with mgmt := { s.mgmt with unit := .replyPending, reply := some t, replyPort := some p } }
  obtain ⟨hpool, hmgmt, -, -⟩ := appendEntry_keeps p .reply u
  refine ⟨⟨?_, fun i => ?_⟩, ?_, appendEntry_room (s := u) h.room hroom, appendEntry_nodup (s := u) h.nodup (not_mem_refs hnone p)⟩
  · rw [appendEntry_classQueue]
    exact h.buffers.1
  · have hne : BufferRef.pool i ≠ .reply := BufferRef.noConfusion
    rw [buffer_of_pool hpool]
    refine claimRight_congr (h.buffers.2 i) (by rw [appendEntry_classQueue]) ?_ (fun q => by rw [appendEntry_rx]; rfl) fun q hq => ?_
    · exact naming_appendEntry_ne u hne
    · rw [← List.one_le_count_iff] at hq ⊢
      rwa [appendEntry_count u hne] at hq
  · unfold ReplyRight
    rw [hmgmt]
    refine ⟨rfl, (naming_appendEntry p .reply u).trans (congrArg (· + 1) hnone), ?_⟩
    show BufferRef.reply ∈ ((appendEntry p .reply u).port p).refs
    rw [appendEntry_refs]
    simp

/-! ## A buffer placed on the ports of a set -/

/-- What is placed so far of a buffer: its claim counts its references, none of them at its ingress port; the rest is as it was
(R76, R80). -/
structure Placing (i : Fin Config.poolSize) (ingress : Port) (s t : State) : Prop where
  count : ∀ p ref, ref ≠ .pool i → (t.port p).refs.count ref = (s.port p).refs.count ref
  rx : ∀ p, (t.port p).rx = (s.port p).rx
  buffer : ∀ j, j ≠ i → t.buffer j = s.buffer j
  held : (t.buffer i).claim = .held ingress (naming t (.pool i))
  ingress : BufferRef.pool i ∉ (t.port ingress).refs
  room : ∀ p, (t.port p).queue.length ≤ 12
  nodup : ∀ p, (t.port p).refs.Nodup
  classQueue : t.classQueue = s.classQueue
  mgmt : t.mgmt = s.mgmt

theorem Placing.count_port {i : Fin Config.poolSize} {ingress : Port} {s t : State} (h : Placing i ingress s t) (p : Port)
    (c : CounterName) : Placing i ingress s (t.count p c) := by
  have hrefs : ∀ q, ((t.count p c).port q).refs = (t.port q).refs := refs_setPort rfl
  refine ⟨fun q ref hne => by rw [hrefs, h.count q ref hne], fun q => ?_, h.buffer, ?_, by rw [hrefs]; exact h.ingress,
    fun q => by rw [length_queue_of_refs (hrefs q)]; exact h.room q, fun q => by rw [hrefs]; exact h.nodup q, h.classQueue, h.mgmt⟩
  · rw [← h.rx q, State.count]
    by_cases hq : q = p
    · subst hq
      rw [State.port_setPort_same]
    · rw [State.port_setPort_ne _ _ hq]
  · rw [naming_congr hrefs]
    exact h.held

/-- One port of the set decided (R80). -/
theorem Placing.decided {i : Fin Config.poolSize} {ingress p : Port} {s t : State} (h : Placing i ingress s t) (hp : p ≠ ingress)
    (hnew : BufferRef.pool i ∉ (t.port p).refs) : Placing i ingress s (enqueueOn i t p) := by
  unfold enqueueOn
  split
  · next hroom =>
    rw [h.held]
    dsimp only
    let u : State := t.setBuffer i { t.buffer i with claim := .held ingress (naming t (.pool i) + 1) }
    obtain ⟨hpool, hmgmt, -, -⟩ := appendEntry_keeps p (.pool i) u
    refine ⟨fun q ref hne => ?_, fun q => ?_, fun j hj => ?_, ?_, ?_, appendEntry_room (s := u) h.room hroom,
      appendEntry_nodup (s := u) h.nodup hnew, ?_, hmgmt.trans h.mgmt⟩
    · rw [← h.count q ref hne]
      exact appendEntry_count u hne q
    · rw [← h.rx q]
      exact appendEntry_rx p (.pool i) u q
    · rw [← h.buffer j hj, buffer_of_pool hpool]
      exact State.buffer_setBuffer_ne _ _ hj
    · rw [naming_appendEntry, buffer_of_pool hpool, State.buffer_setBuffer_same]
      rfl
    · rw [appendEntry_others p (.pool i) u ingress hp.symm]
      exact h.ingress
    · rw [← h.classQueue]
      exact appendEntry_classQueue p (.pool i) u
  · exact h.count_port p _

theorem enqueueOn_others (i : Fin Config.poolSize) (s : State) (p : Port) : OthersKept p s (enqueueOn i s p) := by
  unfold enqueueOn
  split
  · intro q hq
    dsimp only
    split
    all_goals exact appendEntry_others p (.pool i) _ q hq
  · exact (onlyLine_count ..).othersKept

/-- Every port of the set decided, each for itself (R80). -/
theorem Placing.all {i : Fin Config.poolSize} {ingress : Port} {s : State} : ∀ (ports : List Port) {t : State}, Placing i ingress s t →
    ports.Nodup → (∀ p ∈ ports, p ≠ ingress ∧ BufferRef.pool i ∉ (t.port p).refs) → Placing i ingress s (ports.foldl (enqueueOn i) t)
  | [], _, h, _, _ => h
  | p :: rest, t, h, hnodup, hports => by
    obtain ⟨hp, hrest⟩ := List.nodup_cons.1 hnodup
    obtain ⟨hingress, hnew⟩ := hports p List.mem_cons_self
    refine Placing.all rest (h.decided hingress hnew) hrest fun q hq => ?_
    have hqp : q ≠ p := by rintro rfl; exact hp hq
    rw [enqueueOn_others i t p q hqp]
    exact hports q (List.mem_cons_of_mem _ hq)

theorem nodup_ports (set : PortSet) : set.ports.Nodup := List.Nodup.filter _ (by decide)

theorem ne_of_mem_ports {set : PortSet} {ingress p : Port} (hset : set.get ingress = false) (h : p ∈ set.ports) : p ≠ ingress := by
  rintro rfl
  obtain ⟨-, hget⟩ := List.mem_filter.1 h
  rw [hset] at hget
  cases hget

/-- The head of the Classification Queue is there once (R74). -/
theorem Accounts.rest_nodup {s : State} (h : Accounts s) {i : Fin Config.poolSize} {rest : List (Fin Config.poolSize)}
    (hqueue : s.classQueue = i :: rest) : i ∉ rest ∧ rest.Nodup := by
  have hnodup := h.buffers.1
  rw [hqueue] at hnodup
  exact List.nodup_cons.1 hnodup

/-- The accounts once a buffer of the Classification Queue is placed, and FREE or claimed by its references. -/
theorem Placing.accounts {i : Fin Config.poolSize} {rest : List (Fin Config.poolSize)} {ingress : Port} {s v w : State} (h : Accounts s)
    (hqueue : s.classQueue = i :: rest) (hv : Placing i ingress { s with classQueue := rest } v) (hports : w.ports = v.ports)
    (hclass : w.classQueue = v.classQueue) (hmgmt : w.mgmt = v.mgmt) (hothers : ∀ j, j ≠ i → w.buffer j = v.buffer j)
    (hclaim : claimRight v i (w.buffer i).claim) : Accounts w := by
  have hport (p : Port) : w.port p = v.port p := by rw [State.port, hports, State.port]
  refine h.at_buffer i (fun p ref hne => ?_) (fun p j _ => ?_) (fun j hj => ?_) (fun j hj => ?_) ?_ ?_ (fun p => ?_) (fun p => ?_) ?_ ?_ ?_
  · rw [hport]
    exact hv.count p ref hne
  · rw [hport, hv.rx]
    exact Iff.rfl
  · rw [hothers j hj, hv.buffer j hj]
    rfl
  · rw [hclass, hv.classQueue, hqueue, List.mem_cons]
    exact ⟨.inr, fun e => e.resolve_left hj⟩
  · rw [hclass, hv.classQueue]
    exact (h.rest_nodup hqueue).2
  · exact claimRight_congr hclaim (by rw [hclass]) (naming_congr (fun p => by rw [hport]) _) (fun p => by rw [hport])
      fun p => by rw [hport]; exact id
  · rw [hport]
    exact hv.room p
  · rw [hport]
    exact hv.nodup p
  all_goals rw [hmgmt, hv.mgmt]

/-- A buffer in the Classification Queue placed on the ports of a set without its ingress port, or FREE where no port takes it
(R76, R80). -/
theorem Accounts.forward {s : State} (h : Accounts s) {i : Fin Config.poolSize} {rest : List (Fin Config.poolSize)} {ingress : Port}
    {t : Telegram} {set : PortSet} (hqueue : s.classQueue = i :: rest) (hclaim : (s.buffer i).claim = .waiting ingress)
    (hset : set.get ingress = false) : Accounts (enqueue i ingress t set { s with classQueue := rest }) := by
  have hbuffer := h.buffers.2 i
  rw [hclaim] at hbuffer
  obtain ⟨-, hnamed, hnone⟩ := hbuffer
  let u : State := { s with classQueue := rest }
  have hbegins : Placing i ingress u (u.setBuffer i ⟨.held ingress 0, t⟩) := by
    refine ⟨fun _ _ _ => rfl, fun _ => rfl, fun j hj => State.buffer_setBuffer_ne _ _ hj, ?_, not_mem_refs hnamed ingress, h.room, h.nodup,
      rfl, rfl⟩
    rw [State.buffer_setBuffer_same]
    exact congrArg (Claim.held ingress) hnamed.symm
  have hplaced := hbegins.all set.ports (nodup_ports set) fun p hp => ⟨ne_of_mem_ports hset hp, not_mem_refs hnamed p⟩
  unfold enqueue
  dsimp only
  generalize set.ports.foldl (enqueueOn i) (u.setBuffer i ⟨.held ingress 0, t⟩) = v at hplaced
  have hreceives (p : Port) : (v.port p).rx.buffer ≠ some i := by
    rw [hplaced.rx]
    exact hnone p
  have hwaits : i ∉ v.classQueue := by
    rw [hplaced.classQueue]
    exact (h.rest_nodup hqueue).1
  rw [hplaced.held]
  cases hrefs : naming v (.pool i) with
  | zero =>
    refine hplaced.accounts h hqueue (w := v.freeBuffer i) rfl rfl rfl (fun j hj => State.buffer_freeBuffer_ne _ hj) ?_
    rw [State.buffer_freeBuffer_same]
    exact ⟨hwaits, hrefs, hreceives⟩
  | succ k =>
    refine hplaced.accounts h hqueue (w := v) rfl rfl rfl (fun _ _ => rfl) ?_
    rw [hplaced.held]
    exact ⟨hwaits, rfl, by omega, naming_le_two hplaced.nodup hplaced.ingress, hplaced.ingress, hreceives⟩

/-- The buffer at the head of the Classification Queue FREE after its classification (R74). -/
theorem Accounts.discard {s : State} (h : Accounts s) {i : Fin Config.poolSize} {rest : List (Fin Config.poolSize)} {ingress : Port}
    (hqueue : s.classQueue = i :: rest) (hclaim : (s.buffer i).claim = .waiting ingress) :
    Accounts (State.freeBuffer { s with classQueue := rest } i) := by
  have hbuffer := h.buffers.2 i
  rw [hclaim] at hbuffer
  obtain ⟨-, hnamed, hnone⟩ := hbuffer
  obtain ⟨hi, hrest⟩ := h.rest_nodup hqueue
  refine h.at_buffer_of_refs i (fun _ => rfl) (fun _ _ _ => Iff.rfl) (fun j hj => congrArg Buffer.claim (State.buffer_freeBuffer_ne _ hj))
    (fun j hj => ?_) hrest ?_ rfl rfl rfl
  · rw [hqueue, List.mem_cons]
    exact ⟨.inr, fun e => e.resolve_left hj⟩
  · rw [State.buffer_freeBuffer_same]
    exact ⟨hi, hnamed, hnone⟩

/-! ## A bridge without traffic -/

theorem accounts_of_empty {s : State} (hqueue : ∀ p, (s.port p).queue = []) (hrx : ∀ p, (s.port p).rx.buffer = none)
    (hpool : s.pool = emptyPool) (hclass : s.classQueue = []) (hunit : s.mgmt.unit = .idle) (hreply : s.mgmt.reply = none)
    (hport : s.mgmt.replyPort = none) : Accounts s := by
  have hrefs (p : Port) : (s.port p).refs = [] := by rw [LinePort.refs, hqueue]; rfl
  have hnaming (ref : BufferRef) : naming s ref = 0 := by simp [naming, hrefs]
  refine ⟨⟨by rw [hclass]; exact List.nodup_nil, fun i => ?_⟩, ?_, fun p => by rw [hqueue]; exact Nat.zero_le _,
    fun p => by rw [hrefs]; exact List.nodup_nil⟩
  · rw [emptyPool_claim hpool]
    exact ⟨by rw [hclass]; exact List.not_mem_nil, hnaming _, fun p => by rw [hrx]; exact (Option.some_ne_none _).symm⟩
  · unfold ReplyRight
    rw [hreply]
    exact ⟨hunit, hport, hnaming _⟩

theorem accounts_enterReset (cause : Cause) (s : State) : Accounts (enterReset cause s) :=
  accounts_of_empty (fun p => by rw [enterReset_port]; rfl) (fun p => by rw [enterReset_port]; rfl) rfl rfl rfl rfl rfl

theorem started_rx_buffer (f : Profile) (now : Nat) : (LinePort.started f now).rx.buffer = none := by
  unfold LinePort.started
  dsimp only
  split <;> rfl

theorem accounts_startUp (straps : Straps) (s : State) : Accounts (startUp straps s) :=
  accounts_of_empty (fun p => by rw [startUp_port]; rfl) (fun p => by rw [startUp_port]; exact started_rx_buffer _ _) rfl rfl rfl rfl rfl

/-! ## The moves and the accounts -/

theorem filter_ne_refs (x : LinePort) (hnodup : x.refs.Nodup) (ref : BufferRef) :
    (x.queue.filter fun e => e.ref != ref).map (fun e => e.ref) = x.refs.erase ref := by
  rw [hnodup.erase_eq_filter, LinePort.refs, List.filter_map]
  rfl

theorem accounts_restTransmitter {s : State} (h : Accounts s) (p : Port) : Accounts (restTransmitter p s) := h.setPort rfl rfl

theorem beginSending_others (p : Port) (s : State) : OthersKept p s (beginSending p s) := (onlyLine_beginSending p s).othersKept

/-- The accounts where at most a port's transmitter and what is not accounted for has changed. -/
theorem Accounts.of_line {p : Port} {s t : State} (h : Accounts s) (hline : OnlyLine p s t) (hpool : t.pool = s.pool) (hmgmt : t.mgmt = s.mgmt)
    (hqueue : (t.port p).refs = (s.port p).refs) (hrx : (t.port p).rx.buffer = (s.port p).rx.buffer) : Accounts t := by
  have hothers := hline.othersKept
  obtain ⟨-, -, -, hclass, -⟩ := onlyLine_iff.1 hline
  refine h.congr (fun q => ?_) (fun q => ?_) (fun i => by rw [buffer_of_pool hpool]) hclass (by rw [hmgmt]) (by rw [hmgmt]) (by rw [hmgmt])
  · by_cases hq : q = p
    · rw [hq, hqueue]
    · rw [hothers q hq]
  · by_cases hq : q = p
    · rw [hq, hrx]
    · rw [hothers q hq]

theorem accounts_workGone {s : State} (h : Accounts s) (p : Port) : Accounts (workGone p s) := by
  unfold workGone
  split
  · split
    · exact h
    · exact h.setPort rfl rfl
  all_goals exact h

/-- Every move keeps the accounts. -/
theorem Move.accounts {s t : State} (hports : PortsRight s) (h : Accounts s) (hmove : Move s t) : Accounts t := by
  cases hmove with
  | core hsame =>
    have hport (p : Port) : t.port p = s.port p := by rw [State.port, hsame.ports, State.port]
    exact h.congr (fun p => by rw [hport]) (fun p => by rw [hport]) (fun i => by rw [buffer_of_pool hsame.pool]) hsame.classQueue hsame.unit
      hsame.reply hsame.replyPort
  | tweak p y hy => exact h.setPort (by rw [LinePort.refs, hy.queue]; rfl) hy.rx.buffer_eq
  | advance p => exact h.setPort rfl rfl
  | drop p r y hrx hy => exact h.drop hrx rfl hy.buffer_none
  | header p i data r hrx hfree hbuffer hr => exact h.header _ hrx hfree hbuffer
  | store p r r' t hrx hbuffer hfaithful =>
    refine Accounts.setPort (s := s.setBuffer r.buffer _) (h.congr (fun _ => rfl) (fun _ => rfl) (fun j => ?_) rfl rfl rfl rfl) rfl ?_
    · by_cases hj : j = r.buffer
      · rw [hj, State.buffer_setBuffer_same]
      · rw [State.buffer_setBuffer_ne _ _ hj]
    · rw [State.setBuffer_port, hrx]
      exact congrArg some hbuffer
  | accept p r hrx hwhole => exact h.accept hrx
  | rest p htx => exact accounts_restTransmitter h p
  | pop p htx => exact accounts_restTransmitter (accounts_removeHead h p) p
  | retry p e rest htx hqueue hlimit =>
    exact accounts_restTransmitter
      (h.setPort (y := { s.port p with queue := { e with failed := e.failed + 1 } :: rest }) (by simp [LinePort.refs, hqueue]) rfl) p
  | begin p htx =>
    obtain ⟨hpool, hmgmt, hqueue, hrx⟩ := beginSending_keeps p s
    exact h.of_line (onlyLine_beginSending p s) hpool hmgmt (by rw [LinePort.refs, hqueue]; rfl) (by rw [hrx])
  | expire p ref hmem hsent =>
    exact accounts_workGone
      (h.remove (y := { s.port p with queue := (s.port p).queue.filter fun e => e.ref != ref }) hmem (filter_ne_refs _ (h.nodup p) ref) rfl) p
  | requestBreak p hopen => exact accounts_workAppears (h.setPort (y := { s.port p with breakPending := true }) rfl rfl) p
  | reply p t hunit hroom hwhole => exact h.placed hunit hroom
  | discard i rest ingress hqueue hclaim => exact h.discard hqueue hclaim
  | forward i rest ingress t set hqueue hclaim hset hcontrol hpayload => exact h.forward hqueue hclaim hset
  | astray i rest hqueue hclaim =>
    obtain ⟨ingress, hwaiting⟩ := h.buffers.waiting (i := i) (by rw [hqueue]; exact List.mem_cons_self)
    exact absurd hwaiting (hclaim ingress)
  | close p mode hopen hmode => exact accounts_closePort h p mode
  | opens p mode hclosed hmode =>
    obtain ⟨hdeaf, -⟩ := (hports.right p).closed hclosed
    exact h.setPort rfl (by rw [hdeaf]; rfl)
  | reset cause => exact accounts_enterReset cause s
  | startUp straps => exact accounts_startUp straps s

/-! ## The entry being sent -/

/-- The entry being sent is at the head of its queue (R37). -/
def LinePort.HeadRight (x : LinePort) : Prop := ∀ a ∈ x.tx.attempt, x.refs.head? = some a.entry

theorem headRight_of_none {x : LinePort} (h : x.tx.attempt = none) : x.HeadRight := by
  intro a ha
  rw [h] at ha
  cases ha

theorem LinePort.HeadRight.congr {x y : LinePort} (h : x.HeadRight) (hhead : y.refs.head? = x.refs.head?)
    (htx : ∀ b ∈ y.tx.attempt, ∃ a ∈ x.tx.attempt, b.entry = a.entry) : y.HeadRight := by
  intro b hb
  obtain ⟨a, ha, hab⟩ := htx b hb
  rw [hhead, h a ha, hab]

theorem LinePort.HeadRight.same {x y : LinePort} (h : x.HeadRight) (htx : y.tx = x.tx) (hqueue : y.queue = x.queue) : y.HeadRight :=
  h.congr (by rw [LinePort.refs, hqueue]; rfl) fun b hb => ⟨b, htx ▸ hb, rfl⟩

theorem TxKept.attempt {x y : TxState} (h : TxKept x y) : ∀ b ∈ y.attempt, ∃ a ∈ x.attempt,
    b.entry = a.entry ∧ b.check = a.check ∧ b.character = a.character := by
  rcases h with rfl | ⟨a, b, -, hentry, hcheck, hcharacter, ⟨rfl, rfl | rfl⟩ | ⟨rfl, rfl⟩⟩
  · exact fun b hb => ⟨b, hb, rfl, rfl, rfl⟩
  all_goals
    intro b' hb
    cases hb
    exact ⟨a, rfl, hentry, hcheck, hcharacter⟩

theorem nextCharacter_attempt (s : State) (x : TxState) : ∀ b ∈ (nextCharacter s x).attempt, ∃ a ∈ x.attempt,
    b.entry = a.entry ∧ b.check = a.check := by
  intro b hb
  unfold nextCharacter at hb
  cases x with
  | arbitrating a =>
    refine ⟨a, rfl, ?_⟩
    dsimp only at hb
    split at hb
    all_goals cases hb; exact ⟨rfl, rfl⟩
  | sending a =>
    refine ⟨a, rfl, ?_⟩
    dsimp only at hb
    split at hb
    all_goals cases hb; exact ⟨rfl, rfl⟩
  | idle | waitGap | breaking _ | halted => cases hb

theorem restTransmitter_attempt (p : Port) (s : State) : ((restTransmitter p s).port p).tx.attempt = none := by
  rw [restTransmitter, State.port_setPort_same]
  dsimp only
  split <;> rfl

theorem headRight_beginSending {p : Port} {s : State} (h : (s.port p).HeadRight) : ((beginSending p s).port p).HeadRight := by
  unfold beginSending
  dsimp only
  split
  · rw [State.port_setPort_same]
    exact headRight_of_none rfl
  · split
    · exact h
    · next e rest hqueue =>
      rw [State.port_setPort_same]
      intro a ha
      cases ha
      simp [LinePort.refs, hqueue]

theorem headRight_workAppears {p : Port} {s : State} (h : (s.port p).HeadRight) : ((workAppears p s).port p).HeadRight := by
  unfold workAppears
  split
  · split
    · exact headRight_beginSending h
    · rw [State.port_setPort_same]
      exact headRight_of_none rfl
  all_goals exact h

theorem headRight_appendEntry {p : Port} {ref : BufferRef} {s : State} (h : (s.port p).HeadRight) :
    ((appendEntry p ref s).port p).HeadRight := by
  refine headRight_workAppears ?_
  rw [State.port_setPort_same]
  intro a ha
  have hhead := h a ha
  cases hqueue : (s.port p).queue with
  | nil => simp [LinePort.refs, hqueue] at hhead
  | cons e rest => simpa [LinePort.refs, hqueue] using hhead

/-- A waiting entry that leaves is not the one being sent (R50). -/
theorem head?_filter_ne {x : LinePort} {ref : BufferRef} {a : Attempt} (hhead : x.refs.head? = some a.entry) (hne : a.entry ≠ ref) :
    ((x.queue.filter fun e => e.ref != ref).map fun e => e.ref).head? = some a.entry := by
  cases hqueue : x.queue with
  | nil => simp [LinePort.refs, hqueue] at hhead
  | cons e rest =>
    have he : e.ref = a.entry := by simpa [LinePort.refs, hqueue] using hhead
    rw [List.filter_cons_of_pos (by simpa [he] using hne)]
    simp [he]

theorem beingSent_false {x : LinePort} {ref : BufferRef} (h : beingSent x ref = false) : ∀ a ∈ x.tx.attempt, a.entry ≠ ref := by
  intro a ha
  rw [beingSent, Option.mem_def.1 ha] at h
  exact of_decide_eq_false h

theorem workGone_attempt (p : Port) (s : State) : ((workGone p s).port p).tx.attempt = (s.port p).tx.attempt := by
  rw [workGone_port]
  by_cases hwait : (s.port p).tx = .waitGap
  · rw [if_pos hwait, hwait, restState]
    split <;> rfl
  · rw [if_neg hwait]

/-- Every attempt is at the entry at the head of its port's queue. -/
def HeadsRight (s : State) : Prop := ∀ p, (s.port p).HeadRight

theorem headsRight_of_port {p : Port} {s t : State} (h : HeadsRight s) (hothers : OthersKept p s t) (hp : (t.port p).HeadRight) :
    HeadsRight t := by
  intro q
  by_cases hq : q = p
  · exact hq ▸ hp
  · rw [hothers q hq]
    exact h q

theorem headsRight_setPort {p : Port} {s : State} {y : LinePort} (h : HeadsRight s) (hy : y.HeadRight) : HeadsRight (s.setPort p y) :=
  headsRight_of_port h (onlyLine_setPort p s y).othersKept (by rw [State.port_setPort_same]; exact hy)

theorem HeadsRight.congr {s t : State} (h : HeadsRight s) (hports : t.ports = s.ports) : HeadsRight t := by
  intro p
  rw [State.port, hports]
  exact h p

theorem headsRight_enqueueOn {i : Fin Config.poolSize} {s : State} (h : HeadsRight s) (p : Port) : HeadsRight (enqueueOn i s p) := by
  have happends (u : State) (hu : HeadsRight u) : HeadsRight (appendEntry p (.pool i) u) :=
    headsRight_of_port hu (appendEntry_others p (.pool i) u) (headRight_appendEntry (hu p))
  unfold enqueueOn
  split
  · dsimp only
    split
    · exact happends _ (h.congr rfl)
    all_goals exact happends _ h
  · exact headsRight_setPort h ((h p).same rfl rfl)

theorem headsRight_enqueue {i : Fin Config.poolSize} {ingress : Port} {t : Telegram} {set : PortSet} {s : State} (h : HeadsRight s) :
    HeadsRight (enqueue i ingress t set s) := by
  have hplaced : ∀ (ports : List Port) (u : State), HeadsRight u → HeadsRight (ports.foldl (enqueueOn i) u) := by
    intro ports
    induction ports with
    | nil => exact fun _ hu => hu
    | cons p rest ih => exact fun u hu => ih _ (headsRight_enqueueOn hu p)
  have hall := hplaced set.ports (s.setBuffer i ⟨.held ingress 0, t⟩) (h.congr rfl)
  unfold enqueue
  dsimp only
  split
  · exact hall.congr rfl
  · exact hall

theorem started_attempt (f : Profile) (now : Nat) : (LinePort.started f now).tx.attempt = none := by
  unfold LinePort.started
  dsimp only
  split <;> rfl

/-- Every move keeps the entries being sent at the heads of their queues. -/
theorem Move.headsRight {s t : State} (h : HeadsRight s) (hmove : Move s t) : HeadsRight t := by
  cases hmove with
  | core hsame => exact h.congr hsame.ports
  | tweak p y hy =>
    refine headsRight_setPort h ((h p).congr (by rw [LinePort.refs, hy.queue]; rfl) fun b hb => ?_)
    obtain ⟨a, ha, hentry, -⟩ := hy.tx.attempt b hb
    exact ⟨a, ha, hentry⟩
  | advance p =>
    refine headsRight_setPort h ((h p).congr rfl fun b hb => ?_)
    obtain ⟨a, ha, hentry, -⟩ := nextCharacter_attempt s _ b hb
    exact ⟨a, ha, hentry⟩
  | drop p r y hrx hy => exact headsRight_setPort (s := s.freeBuffer r.buffer) (h.congr rfl) ((h p).same rfl rfl)
  | header p i data r hrx hfree hbuffer hr => exact headsRight_setPort (s := s.setBuffer i _) (h.congr rfl) ((h p).same rfl rfl)
  | store p r r' t hrx hbuffer hfaithful => exact headsRight_setPort (s := s.setBuffer r.buffer _) (h.congr rfl) ((h p).same rfl rfl)
  | accept p r hrx hwhole => exact (headsRight_setPort (y := { s.port p with rx := .search }) h ((h p).same rfl rfl)).congr rfl
  | rest p htx =>
    exact headsRight_of_port h (onlyLine_restTransmitter p s).othersKept (headRight_of_none (restTransmitter_attempt p s))
  | pop p htx =>
    exact headsRight_of_port h ((onlyLine_removeHead p s).trans (onlyLine_restTransmitter p _)).othersKept
      (headRight_of_none (restTransmitter_attempt p _))
  | retry p e rest htx hqueue hlimit =>
    exact headsRight_of_port h ((onlyLine_setPort p s _).trans (onlyLine_restTransmitter p _)).othersKept
      (headRight_of_none (restTransmitter_attempt p _))
  | begin p htx => exact headsRight_of_port h (beginSending_others p s) (headRight_beginSending (h p))
  | expire p ref hmem hsent =>
    refine headsRight_of_port h
      (((onlyLine_setPort p s _).trans (onlyLine_release p _ ref)).trans (onlyLine_workGone p _)).othersKept ?_
    intro a ha
    rw [workGone_attempt, State.release_port, State.port_setPort_same] at ha
    have hhead := head?_filter_ne (h p a ha) (beingSent_false hsent a ha)
    rw [workGone_port, State.release_port, State.port_setPort_same]
    exact hhead
  | requestBreak p hopen =>
    refine headsRight_of_port h ((onlyLine_setPort p s _).trans (onlyLine_workAppears p _)).othersKept (headRight_workAppears ?_)
    rw [State.port_setPort_same]
    exact (h p).same rfl rfl
  | reply p t hunit hroom hwhole =>
    exact headsRight_of_port (h.congr rfl) (appendEntry_others p .reply _) (headRight_appendEntry (h p))
  | discard i rest ingress hqueue hclaim => exact h.congr rfl
  | forward i rest ingress t set hqueue hclaim hset hcontrol hpayload => exact headsRight_enqueue (h.congr rfl)
  | astray i rest hqueue hclaim => exact h.congr rfl
  | close p mode hopen hmode =>
    obtain ⟨-, -, htx, -⟩ := closePort_port p mode s
    exact headsRight_of_port h (onlyLine_closePort p mode s).othersKept (headRight_of_none (by rw [htx]; rfl))
  | opens p mode hclosed hmode => exact headsRight_setPort h (headRight_of_none rfl)
  | reset cause => exact fun p => headRight_of_none (by rw [enterReset_port]; rfl)
  | startUp straps => exact fun p => headRight_of_none (by rw [startUp_port]; exact started_attempt _ _)

/-! ## The traffic -/

theorem trafficRight_iff (s : State) : TrafficRight s ↔ PortsRight s ∧ Accounts s ∧ HeadsRight s := by
  constructor
  · rintro ⟨hports, hbuffers, hqueues, hreply⟩
    exact ⟨hports, ⟨hbuffers, hreply, fun p => (hqueues p).1, fun p => (hqueues p).2.1⟩, fun p => (hqueues p).2.2⟩
  · rintro ⟨hports, haccounts, hheads⟩
    exact ⟨hports, haccounts.buffers, fun p => ⟨haccounts.room p, haccounts.nodup p, hheads p⟩, haccounts.reply⟩

/-- Every move keeps the traffic in order. -/
theorem Move.trafficRight {s t : State} (h : TrafficRight s) (hmove : Move s t) : TrafficRight t := by
  rw [trafficRight_iff] at h ⊢
  obtain ⟨hports, haccounts, hheads⟩ := h
  exact ⟨hmove.portsRight hports, hmove.accounts hports haccounts, hmove.headsRight hheads⟩

/-- Settles O57: every row is a run of moves, and every move keeps each buffer claimed by exactly what holds it. -/
theorem stepKeepsTrafficRight : Obligations.StepKeepsTrafficRight :=
  fun _ _ hs h => step_keeps_of_move (fun _ _ => Move.trafficRight) hs h

end Sys2Proof.Machine
end

section
/-! SUPPORT. What is received and what is sent: every move keeps receptions, complete telegrams, attempts and entries in order (R4, R22,
R40, R44, R73, R78). -/

namespace Sys2Proof.Machine

/-! ## The parts -/

/-- A claim under which a buffer holds a complete telegram (R70). -/
def Claim.Complete : Claim → Prop
  | .waiting _ => True
  | .held _ _ => True
  | .free => False
  | .filling _ => False

theorem telegramsRight_iff (s : State) :
    TelegramsRight s ↔ (∀ i, (s.buffer i).claim.Complete → (s.buffer i).telegram.Whole) ∧ ∀ t ∈ s.mgmt.reply, t.Whole := by
  refine and_congr_left' (forall_congr' fun i => ?_)
  cases (s.buffer i).claim with
  | waiting _ => exact ⟨fun h _ => h, fun h => h trivial⟩
  | held _ _ => exact ⟨fun h _ => h, fun h => h trivial⟩
  | free => exact ⟨fun _ h => h.elim, fun _ => trivial⟩
  | filling _ => exact ⟨fun _ h => h.elim, fun _ => trivial⟩

/-- A port's reception agrees with the buffer it fills (R22). -/
def LinePort.Receiving (s : State) (x : LinePort) : Prop := ∀ r, x.rx = .filling r → r.Faithful (s.buffer r.buffer).telegram

theorem receptionRight_iff (s : State) : ReceptionRight s ↔ ∀ p, (s.port p).Receiving s := by
  refine forall_congr' fun p => ?_
  unfold LinePort.Receiving
  cases (s.port p).rx with
  | filling r => exact ⟨fun h r' hr => by cases hr; exact h, fun h => h r rfl⟩
  | search | skip | deaf => exact ⟨fun _ r hr => (by cases hr), fun _ => trivial⟩

/-- A port's attempt agrees with the buffer it sends (R37, R40, R73). -/
def LinePort.Sending (s : State) (x : LinePort) : Prop :=
  ∀ a ∈ x.tx.attempt, a.check = (s.telegramOf a.entry).check ∧ 1 ≤ a.character ∧ a.character ≤ (s.telegramOf a.entry).count
    ∧ (x.tx = .arbitrating a → a.character ≤ 2)

/-- An entry on a queue of a profile at a moment (R44, R78). -/
def EgressEntry.Right (f : Profile) (now : Nat) (e : EgressEntry) : Prop :=
  e.failed < f.retryLimit ∧ e.deadline ≤ now + 192000 * f.holdLimit

theorem EgressEntry.Right.later {f : Profile} {now now' : Nat} {e : EgressEntry} (h : e.Right f now) (hle : now ≤ now') : e.Right f now' :=
  ⟨h.1, h.2.trans (by omega)⟩

theorem LinePort.Receiving.congr {s t : State} {x : LinePort} (h : x.Receiving s)
    (hsame : ∀ i, x.rx.buffer = some i → (t.buffer i).telegram = (s.buffer i).telegram) : x.Receiving t := by
  intro r hr
  rw [hsame r.buffer (by rw [hr]; rfl)]
  exact h r hr

theorem LinePort.Sending.congr {s t : State} {x : LinePort} (h : x.Sending s)
    (hsame : ∀ a ∈ x.tx.attempt, t.telegramOf a.entry = s.telegramOf a.entry) : x.Sending t := by
  intro a ha
  rw [hsame a ha]
  exact h a ha

theorem sending_of_none {s : State} {x : LinePort} (h : x.tx.attempt = none) : x.Sending s := by
  intro a ha
  rw [h] at ha
  cases ha

theorem receiving_of_none {s : State} {x : LinePort} (h : x.rx.buffer = none) : x.Receiving s := by
  intro r hr
  rw [hr] at h
  cases h

/-! ## Moves at one port -/

/-- What was sent or waits is as it was: the telegrams in the buffers; a complete buffer was complete; a reply was there. -/
structure TelegramsKept (s t : State) : Prop where
  telegram : ∀ i, (t.buffer i).telegram = (s.buffer i).telegram
  complete : ∀ i, (t.buffer i).claim.Complete → (s.buffer i).claim.Complete
  reply : ∀ r ∈ t.mgmt.reply, r ∈ s.mgmt.reply

theorem TelegramsKept.trans {s t u : State} (h : TelegramsKept s t) (k : TelegramsKept t u) : TelegramsKept s u :=
  ⟨fun i => (k.telegram i).trans (h.telegram i), fun i hi => h.complete i (k.complete i hi), fun r hr => h.reply r (k.reply r hr)⟩

theorem telegramsKept_of_pool {s t : State} (hpool : t.pool = s.pool) (hreply : t.mgmt.reply = s.mgmt.reply) : TelegramsKept s t :=
  ⟨fun i => by rw [buffer_of_pool hpool], fun i hi => by rwa [buffer_of_pool hpool] at hi, fun r hr => by rwa [hreply] at hr⟩

/-- A buffer's claim replaced, complete after it only if before it. -/
theorem telegramsKept_setBuffer {s : State} {i : Fin Config.poolSize} {c : Claim} (h : c.Complete → (s.buffer i).claim.Complete) :
    TelegramsKept s (s.setBuffer i { s.buffer i with claim := c }) := by
  refine ⟨fun j => ?_, fun j hc => ?_, fun r hr => hr⟩ <;> by_cases hj : j = i
  · rw [hj, State.buffer_setBuffer_same]
  · rw [State.buffer_setBuffer_ne _ _ hj]
  · rw [hj] at hc ⊢
    rw [State.buffer_setBuffer_same] at hc
    exact h hc
  · rwa [State.buffer_setBuffer_ne _ _ hj] at hc

theorem telegramsKept_freeBuffer (s : State) (i : Fin Config.poolSize) : TelegramsKept s (s.freeBuffer i) :=
  telegramsKept_setBuffer False.elim

theorem telegramsKept_release (s : State) (ref : BufferRef) : TelegramsKept s (s.release ref) := by
  cases ref with
  | reply => exact ⟨fun _ => rfl, fun _ h => h, fun _ h => by cases h⟩
  | pool i =>
    simp only [State.release]
    cases hclaim : (s.buffer i).claim with
    | held ingress refs =>
      dsimp only
      split
      · exact telegramsKept_freeBuffer s i
      · exact telegramsKept_setBuffer fun _ => by rw [hclaim]; trivial
    | free | filling _ | waiting _ => exact telegramsKept_of_pool rfl rfl

theorem telegramsKept_setPort (s : State) (p : Port) (y : LinePort) : TelegramsKept s (s.setPort p y) := telegramsKept_of_pool rfl rfl

theorem telegramsKept_flushed (p : Port) : ∀ (q : List EgressEntry) (s : State),
    TelegramsKept s (q.foldl (fun t e => (t.count p .dropPortClosed).release e.ref) s)
  | [], _ => telegramsKept_of_pool rfl rfl
  | e :: rest, s =>
    ((telegramsKept_setPort s p _).trans (telegramsKept_release _ e.ref)).trans (telegramsKept_flushed p rest _)

theorem telegramsKept_closePort (p : Port) (mode : PortMode) (s : State) : TelegramsKept s (closePort p mode s) := by
  unfold closePort flush
  dsimp only
  refine TelegramsKept.trans ?_ (telegramsKept_flushed p _ _)
  cases (s.port p).rx with
  | filling r => exact ((telegramsKept_setPort s p _).trans (telegramsKept_freeBuffer _ r.buffer)).trans (telegramsKept_of_pool rfl rfl)
  | search | skip | deaf => exact telegramsKept_of_pool rfl rfl

theorem telegramsKept_workGone (p : Port) (s : State) : TelegramsKept s (workGone p s) := by
  unfold workGone
  split
  · split
    · exact telegramsKept_of_pool rfl rfl
    · exact telegramsKept_setPort s p _
  all_goals exact telegramsKept_of_pool rfl rfl

theorem telegramsKept_removeHead (p : Port) (s : State) : TelegramsKept s (removeHead p s) := by
  unfold removeHead
  cases (s.port p).queue with
  | nil => exact telegramsKept_of_pool rfl rfl
  | cons e rest => exact (telegramsKept_setPort s p _).trans (telegramsKept_release _ e.ref)

/-- A move at one port that leaves what was sent or waits as it was. -/
structure Steady (p : Port) (s t : State) : Prop where
  others : OthersKept p s t
  kept : TelegramsKept s t
  clock : s.clock ≤ t.clock
  profile : (t.port p).profile = (s.port p).profile
  entries : ∀ e ∈ (t.port p).queue, e ∈ (s.port p).queue ∨ e.Right (s.port p).profile s.clock
  rx : (s.port p).Receiving s → (t.port p).Receiving s
  tx : (s.port p).Sending s → (t.port p).Sending s

/-- Such a move keeps telegrams faithful, where the entries being sent are at the heads of their queues and what a queue names is as it
was. -/
theorem Steady.telegramsFaithful {p : Port} {s t : State} (h : Steady p s t) (hs : TelegramsFaithful s) (hheads : HeadsRight t)
    (hnamed : ∀ q, ∀ ref ∈ (t.port q).refs, t.telegramOf ref = s.telegramOf ref) : TelegramsFaithful t := by
  obtain ⟨hreception, htelegrams, hsending, hentries⟩ := hs
  rw [receptionRight_iff] at hreception
  rw [telegramsRight_iff] at htelegrams
  refine ⟨(receptionRight_iff t).2 fun q => ?_, (telegramsRight_iff t).2 ⟨fun i hi => ?_, fun r hr => htelegrams.2 r (h.kept.reply r hr)⟩,
    fun q => ?_, fun q => ?_⟩
  · have hport : (t.port q).Receiving s := by
      by_cases hq : q = p
      · exact hq ▸ h.rx (hreception p)
      · rw [h.others q hq]
        exact hreception q
    exact hport.congr fun i _ => h.kept.telegram i
  · rw [h.kept.telegram]
    exact htelegrams.1 i (h.kept.complete i hi)
  · have hport : (t.port q).Sending s := by
      by_cases hq : q = p
      · exact hq ▸ h.tx (hsending p)
      · rw [h.others q hq]
        exact hsending q
    exact hport.congr fun a ha => hnamed q a.entry (List.mem_of_mem_head? (hheads q a ha))
  · intro e he
    by_cases hq : q = p
    · subst hq
      rw [h.profile]
      rcases h.entries e he with hmem | hright
      · exact EgressEntry.Right.later (hentries q e hmem) h.clock
      · exact hright.later h.clock
    · rw [h.others q hq] at he ⊢
      exact EgressEntry.Right.later (hentries q e he) h.clock

/-- Where the telegrams and the reply are as they were, so is what any queue names. -/
theorem telegramOf_congr {s t : State} (htelegram : ∀ i, (t.buffer i).telegram = (s.buffer i).telegram)
    (hreply : t.mgmt.reply = s.mgmt.reply) (ref : BufferRef) : t.telegramOf ref = s.telegramOf ref := by
  cases ref with
  | pool i => exact htelegram i
  | reply => rw [State.telegramOf, hreply, State.telegramOf]

/-- A reply that a queue names is still there (R151). -/
theorem TelegramsKept.telegramOf {s t : State} (h : TelegramsKept s t) (ht : ReplyRight t) {p : Port} {ref : BufferRef}
    (hmem : ref ∈ (t.port p).refs) : t.telegramOf ref = s.telegramOf ref := by
  cases ref with
  | pool i => exact h.telegram i
  | reply =>
    have hpos := naming_pos hmem
    unfold ReplyRight at ht
    cases hreply : t.mgmt.reply with
    | none =>
      rw [hreply] at ht
      obtain ⟨-, -, hnone⟩ := ht
      omega
    | some r =>
      simp only [State.telegramOf, hreply, Option.mem_def.1 (h.reply r hreply)]

/-- Such a move keeps telegrams faithful where the traffic is in order after it. -/
theorem Steady.keeps {p : Port} {s t : State} (h : Steady p s t) (hs : TelegramsFaithful s) (ht : TrafficRight t) : TelegramsFaithful t := by
  obtain ⟨-, haccounts, hheads⟩ := (trafficRight_iff t).1 ht
  exact h.telegramsFaithful hs hheads fun q ref hmem => h.kept.telegramOf haccounts.reply hmem

/-- Such a move keeps telegrams faithful where it leaves the reply as it was. -/
theorem Steady.keeps_of_reply {p : Port} {s t : State} (h : Steady p s t) (hs : TelegramsFaithful s) (hheads : HeadsRight t)
    (hreply : t.mgmt.reply = s.mgmt.reply) : TelegramsFaithful t :=
  h.telegramsFaithful hs hheads fun _ ref _ => telegramOf_congr h.kept.telegram hreply ref

/-- No port is touched. -/
theorem steady_of_ports {s t : State} (hports : t.ports = s.ports) (hkept : TelegramsKept s t) (hclock : s.clock ≤ t.clock) :
    Steady .a s t := by
  have hport (p : Port) : t.port p = s.port p := by rw [State.port, hports, State.port]
  exact ⟨fun q _ => hport q, hkept, hclock, by rw [hport], fun e he => .inl (by rwa [hport] at he), by rw [hport]; exact id,
    by rw [hport]; exact id⟩

/-- One port replaced. -/
theorem steady_setPort {p : Port} {s : State} {y : LinePort} (hprofile : y.profile = (s.port p).profile)
    (hentries : ∀ e ∈ y.queue, e ∈ (s.port p).queue ∨ e.Right (s.port p).profile s.clock)
    (hrx : (s.port p).Receiving s → y.Receiving s) (htx : (s.port p).Sending s → y.Sending s) : Steady p s (s.setPort p y) := by
  refine ⟨(onlyLine_setPort p s y).othersKept, telegramsKept_setPort s p y, le_refl _, ?_, ?_, ?_, ?_⟩ <;> rw [State.port_setPort_same]
  exacts [hprofile, hentries, hrx, htx]

theorem steady_freeBuffer (s : State) (i : Fin Config.poolSize) : Steady .a s (s.freeBuffer i) :=
  steady_of_ports (t := s.freeBuffer i) rfl (telegramsKept_freeBuffer s i) (le_refl _)

theorem steady_count (p : Port) (c : CounterName) (s : State) : Steady p s (s.count p c) :=
  steady_setPort (y := { s.port p with counters := (s.port p).counters.raise c }) rfl (fun _ he => .inl he) id id

/-! ## The transmitter -/

theorem LinePort.Sending.tweak {s : State} {x y : LinePort} (h : x.Sending s) (htx : TxKept x.tx y.tx) : y.Sending s := by
  intro b hb
  obtain ⟨a, ha, hentry, hcheck, hcharacter⟩ := htx.attempt b hb
  obtain ⟨hright, h1, hcount, htwo⟩ := h a ha
  rw [hentry, hcheck, hcharacter]
  refine ⟨hright, h1, hcount, fun harbitrating => htwo ?_⟩
  rw [harbitrating] at htx
  rcases htx with heq | ⟨a', b', -, -, -, -, ⟨hx, -⟩ | ⟨-, hy⟩⟩
  · rw [← heq] at ha ⊢
    cases ha
    rfl
  · rw [hx] at ha ⊢
    cases ha
    rfl
  · cases hy

theorem five_le_count (t : Telegram) : 5 ≤ t.count := Nat.le_add_right 5 _

theorem sending_nextCharacter {s : State} {x : LinePort} (h : x.Sending s) : LinePort.Sending s { x with tx := nextCharacter s x.tx } := by
  unfold nextCharacter
  cases htx : x.tx with
  | arbitrating a =>
    obtain ⟨hright, h1, hcount, htwo⟩ := h a (by rw [htx]; rfl)
    have hle := htwo htx
    have hfive := five_le_count (s.telegramOf a.entry)
    dsimp only
    split
    · intro b hb
      cases hb
      exact ⟨hright, Nat.le_add_left 1 _, show a.character + 1 ≤ (s.telegramOf a.entry).count by omega,
        fun _ => show a.character + 1 ≤ 2 by omega⟩
    · intro b hb
      cases hb
      exact ⟨hright, Nat.le_add_left 1 _, show a.character + 1 ≤ (s.telegramOf a.entry).count by omega, fun e => by cases e⟩
  | sending a =>
    obtain ⟨hright, h1, hcount, -⟩ := h a (by rw [htx]; rfl)
    dsimp only
    split
    · intro b hb
      cases hb
      exact ⟨hright, h1, hcount, fun e => by cases e⟩
    · intro b hb
      cases hb
      exact ⟨hright, le_min (Nat.le_add_left 1 _) (h1.trans hcount), min_le_right _ _, fun e => by cases e⟩
  | idle | waitGap | breaking _ | halted => exact sending_of_none rfl

theorem restState_attempt (work : Bool) : (restState work).attempt = none := by
  cases work <;> rfl

/-- An attempt begins with its check value computed afresh (R40). -/
theorem sending_beginSending {p : Port} {s : State} (h : (s.port p).Sending s) : ((beginSending p s).port p).Sending s := by
  unfold beginSending
  dsimp only
  split
  · rw [State.port_setPort_same]
    exact sending_of_none rfl
  · split
    · exact h
    · next e rest hqueue =>
      rw [State.port_setPort_same]
      intro a ha
      simp only [TxState.attempt, Option.mem_some_iff] at ha
      subst ha
      dsimp only
      exact ⟨rfl, le_refl 1, (Nat.le_add_left 1 4).trans (five_le_count _), fun _ => Nat.le_succ 1⟩

theorem sending_workAppears {p : Port} {s : State} (h : (s.port p).Sending s) : ((workAppears p s).port p).Sending s := by
  unfold workAppears
  split
  · split
    · exact sending_beginSending h
    · rw [State.port_setPort_same]
      exact sending_of_none rfl
  all_goals exact h

theorem beginSending_profile (p : Port) (s : State) : ((beginSending p s).port p).profile = (s.port p).profile := by
  unfold beginSending
  dsimp only
  split
  · rw [State.port_setPort_same]
  · split
    · rfl
    · rw [State.port_setPort_same]

theorem workAppears_profile (p : Port) (s : State) : ((workAppears p s).port p).profile = (s.port p).profile := by
  unfold workAppears
  split
  · split
    · exact beginSending_profile p s
    · rw [State.port_setPort_same]
  all_goals rfl

theorem onlyLine_clock {p : Port} {s t : State} (h : OnlyLine p s t) : t.clock = s.clock := by
  obtain ⟨-, -, hclock, -⟩ := onlyLine_iff.1 h
  exact hclock

/-- A new entry is in order on a port with a legal profile (R44, R78). -/
theorem newEntry_right {s : State} {p : Port} (h : (s.port p).profile.Legal) (ref : BufferRef) :
    (newEntry s p ref).Right (s.port p).profile s.clock := by
  obtain ⟨h1, -⟩ := h
  refine ⟨h1, ?_⟩
  simp only [newEntry, Config.ticksPerMicro]
  omega

theorem steady_beginSending (p : Port) (s : State) : Steady p s (beginSending p s) := by
  obtain ⟨hpool, hmgmt, hqueue, hrx⟩ := beginSending_keeps p s
  exact ⟨beginSending_others p s, telegramsKept_of_pool hpool (by rw [hmgmt]), (onlyLine_clock (onlyLine_beginSending p s)).ge,
    beginSending_profile p s, fun e he => .inl (hqueue ▸ he), fun h r hr => h r (hrx ▸ hr), sending_beginSending⟩

theorem steady_requestBreak (p : Port) (s : State) : Steady p s (workAppears p (s.setPort p { s.port p with breakPending := true })) := by
  obtain ⟨hpool, hmgmt, hqueue, hrx⟩ := workAppears_keeps p (s.setPort p { s.port p with breakPending := true })
  rw [State.port_setPort_same] at hqueue hrx
  have hline := (onlyLine_setPort p s { s.port p with breakPending := true }).trans (onlyLine_workAppears p _)
  refine ⟨hline.othersKept, telegramsKept_of_pool hpool (by rw [hmgmt]; rfl), (onlyLine_clock hline).ge, ?_, fun e he => .inl (hqueue ▸ he),
    fun h r hr => h r (hrx ▸ hr), fun h => ?_⟩
  · rw [workAppears_profile, State.port_setPort_same]
  · exact sending_workAppears (s := s.setPort p _) (by rw [State.port_setPort_same]; exact h)

theorem steady_appendEntry {p : Port} {s : State} (h : (s.port p).profile.Legal) (ref : BufferRef) : Steady p s (appendEntry p ref s) := by
  obtain ⟨hpool, hmgmt, hqueue, hrx⟩ := appendEntry_keeps p ref s
  have hline := onlyLine_appendEntry p ref s
  refine ⟨hline.othersKept, telegramsKept_of_pool hpool (by rw [hmgmt]), (onlyLine_clock hline).ge, ?_, fun e he => ?_,
    fun h r hr => h r (hrx ▸ hr), fun h => ?_⟩
  · rw [appendEntry, workAppears_profile, State.port_setPort_same]
  · rw [hqueue, List.mem_append, List.mem_singleton] at he
    exact he.imp_right fun heq => by rw [heq]; exact newEntry_right h ref
  · exact sending_workAppears (s := s.setPort p _) (by rw [State.port_setPort_same]; exact h)

/-- A transmitter brought to rest with a queue of which every entry is in order. -/
theorem steady_restTransmitter {p : Port} {s t : State} (hothers : OthersKept p s t) (hkept : TelegramsKept s t) (hclock : t.clock = s.clock)
    (hport : ∃ queue, t.port p = { s.port p with queue := queue } ∧ ∀ e ∈ queue, e ∈ (s.port p).queue ∨ e.Right (s.port p).profile s.clock) :
    Steady p s (restTransmitter p t) := by
  obtain ⟨queue, hport, hentries⟩ := hport
  have hline := onlyLine_restTransmitter p t
  refine ⟨fun q hq => (hline.othersKept q hq).trans (hothers q hq), hkept.trans (telegramsKept_setPort t p _),
    ((onlyLine_clock hline).trans hclock).ge, ?_, ?_, ?_, fun _ => sending_of_none (restTransmitter_attempt p t)⟩ <;>
    rw [restTransmitter, State.port_setPort_same, hport]
  exacts [hentries, id]

/-! ## Moves that change what a buffer holds -/

theorem telegramsFaithful_of_ports {s t : State} (hs : TelegramsFaithful s) (hheads : HeadsRight s) (hports : t.ports = s.ports)
    (hpool : t.pool = s.pool) (hreply : t.mgmt.reply = s.mgmt.reply) (hclock : s.clock ≤ t.clock) : TelegramsFaithful t :=
  (steady_of_ports hports (telegramsKept_of_pool hpool hreply) hclock).keeps_of_reply hs (hheads.congr hports) hreply

/-- A buffer that no receiver fills and no queue names may hold anything, a whole telegram where its claim asks for one. -/
theorem telegramsFaithful_setBuffer {s : State} {i : Fin Config.poolSize} {b : Buffer} (hs : TelegramsFaithful s) (hheads : HeadsRight s)
    (hrx : ∀ p, (s.port p).rx.buffer ≠ some i) (hnamed : ∀ p, BufferRef.pool i ∉ (s.port p).refs)
    (hwhole : b.claim.Complete → b.telegram.Whole) : TelegramsFaithful (s.setBuffer i b) := by
  obtain ⟨hreception, htelegrams, hsending, hentries⟩ := hs
  rw [receptionRight_iff] at hreception
  rw [telegramsRight_iff] at htelegrams
  refine ⟨(receptionRight_iff _).2 fun p => (hreception p).congr fun j hj => ?_,
    (telegramsRight_iff _).2 ⟨fun j => ?_, htelegrams.2⟩, fun p => LinePort.Sending.congr (hsending p) fun a ha => ?_, hentries⟩
  · have hne : j ≠ i := by rintro rfl; exact hrx p hj
    rw [State.buffer_setBuffer_ne _ _ hne]
  · by_cases hj : j = i
    · rw [hj, State.buffer_setBuffer_same]
      exact hwhole
    · rw [State.buffer_setBuffer_ne _ _ hj]
      exact htelegrams.1 j
  · cases hentry : a.entry with
    | reply => rfl
    | pool j =>
      have hmem : BufferRef.pool j ∈ (s.port p).refs := hentry ▸ List.mem_of_mem_head? (hheads p a ha)
      have hne : j ≠ i := by rintro rfl; exact hnamed p hmem
      exact congrArg Buffer.telegram (State.buffer_setBuffer_ne _ _ hne)

theorem HeadsRight.withRx {s : State} (h : HeadsRight s) (p : Port) (rx : RxState) : HeadsRight (s.setPort p { s.port p with rx := rx }) :=
  headsRight_setPort h ((h p).same rfl rfl)

theorem telegramsFaithful_setPort_rx {s : State} {p : Port} {rx : RxState} (hs : TelegramsFaithful s) (hheads : HeadsRight s)
    (hrx : LinePort.Receiving s { s.port p with rx := rx }) : TelegramsFaithful (s.setPort p { s.port p with rx := rx }) :=
  (steady_setPort (y := { s.port p with rx := rx }) rfl (fun _ he => .inl he) (fun _ => hrx) id).keeps_of_reply hs (hheads.withRx p rx) rfl

/-- A header (R20). -/
theorem telegramsFaithful_header {s : State} {p : Port} {i : Fin Config.poolSize} {r : RxRecord} {t : Telegram}
    (hs : TelegramsFaithful s) (haccounts : Accounts s) (hheads : HeadsRight s) (hfree : (s.buffer i).claim = .free) (hbuffer : r.buffer = i)
    (hr : r.Faithful t) : TelegramsFaithful ((s.setBuffer i ⟨.filling p, t⟩).setPort p { s.port p with rx := .filling r }) := by
  have hclaim := haccounts.buffers.2 i
  rw [hfree] at hclaim
  obtain ⟨-, hnamed, hnone⟩ := hclaim
  have htaken : TelegramsFaithful (s.setBuffer i ⟨.filling p, t⟩) :=
    telegramsFaithful_setBuffer hs hheads hnone (not_mem_refs hnamed) False.elim
  refine telegramsFaithful_setPort_rx (p := p) htaken (hheads.congr rfl) fun r' hr' => ?_
  cases hr'
  rw [hbuffer, State.buffer_setBuffer_same]
  exact hr

/-- A telegram in reception, its port aside: its buffer is of no concern to the rest. -/
theorem telegramsFaithful_let_go {s : State} {p : Port} {r : RxRecord} {b : Buffer} (hs : TelegramsFaithful s) (haccounts : Accounts s)
    (hheads : HeadsRight s) (hrx : (s.port p).rx = .filling r) (hwhole : b.claim.Complete → b.telegram.Whole) :
    TelegramsFaithful ((s.setPort p { s.port p with rx := .search }).setBuffer r.buffer b) := by
  obtain ⟨-, hnamed, -⟩ := haccounts.filled hrx
  refine telegramsFaithful_setBuffer (telegramsFaithful_setPort_rx hs hheads (receiving_of_none rfl))
    (hheads.withRx p .search) (rx_buffer_let_go_same haccounts hrx rfl) (fun q => ?_) hwhole
  rw [refs_setPort (y := { s.port p with rx := .search }) rfl]
  exact not_mem_refs hnamed q

/-- A character stored (R22). -/
theorem telegramsFaithful_store {s : State} {p : Port} {r r' : RxRecord} {t : Telegram} (hs : TelegramsFaithful s) (haccounts : Accounts s)
    (hheads : HeadsRight s) (hrx : (s.port p).rx = .filling r) (hbuffer : r'.buffer = r.buffer)
    (hfaithful : r.Faithful (s.buffer r.buffer).telegram → r'.Faithful t) :
    TelegramsFaithful ((s.setBuffer r.buffer { s.buffer r.buffer with telegram := t }).setPort p { s.port p with rx := .filling r' }) := by
  have hclaim := haccounts.buffers.filling (p := p) (by rw [hrx]; rfl)
  have hlet := telegramsFaithful_let_go (b := { s.buffer r.buffer with telegram := t }) hs haccounts hheads hrx fun h => by
    rw [hclaim] at h
    exact h.elim
  have hstored := telegramsFaithful_setPort_rx (p := p) (rx := .filling r') hlet
    ((hheads.withRx p .search).congr rfl) fun r'' hr => ?_
  · simpa using hstored
  · cases hr
    rw [hbuffer, State.buffer_setBuffer_same]
    exact hfaithful ((receptionRight_iff s).1 hs.1 p r hrx)

/-- A completed telegram waits (R28). -/
theorem telegramsFaithful_accept {s : State} {p : Port} {r : RxRecord} (hs : TelegramsFaithful s) (haccounts : Accounts s)
    (hheads : HeadsRight s) (hrx : (s.port p).rx = .filling r)
    (hwhole : r.Faithful (s.buffer r.buffer).telegram → (s.buffer r.buffer).telegram.Whole) :
    TelegramsFaithful { (s.setBuffer r.buffer { s.buffer r.buffer with claim := .waiting p }).setPort p { s.port p with rx := .search } with
      classQueue := s.classQueue ++ [r.buffer] } :=
  telegramsFaithful_of_ports
    (telegramsFaithful_let_go (b := { s.buffer r.buffer with claim := .waiting p }) hs haccounts hheads hrx
      fun _ => hwhole ((receptionRight_iff s).1 hs.1 p r hrx))
    ((hheads.withRx p .search).congr rfl) rfl rfl rfl (le_refl _)

/-- A reply placed (R83, R153). -/
theorem telegramsFaithful_reply {s : State} {p : Port} {t : Telegram} (hs : TelegramsFaithful s) (htraffic : TrafficRight s)
    (hunit : s.mgmt.unit = .idle) (hwhole : t.Whole) :
    TelegramsFaithful (appendEntry p .reply { s with mgmt := { s.mgmt with unit := .replyPending, reply := some t, replyPort := some p } }) := by
  obtain ⟨hports, haccounts, hheads⟩ := (trafficRight_iff s).1 htraffic
  obtain ⟨-, hnone⟩ := haccounts.reply.none_of_idle hunit
  let u : State := { s with mgmt := { s.mgmt with unit := .replyPending, reply := some t, replyPort := some p } }
  have hu : TelegramsFaithful u := by
    obtain ⟨hreception, htelegrams, hsending, hentries⟩ := hs
    refine ⟨hreception, ⟨htelegrams.1, fun r hr => ?_⟩, fun q => LinePort.Sending.congr (hsending q) fun a ha => ?_, hentries⟩
    · cases hr
      exact hwhole
    · cases hentry : a.entry with
      | pool j => rfl
      | reply => exact absurd (hentry ▸ List.mem_of_mem_head? (hheads q a ha)) (not_mem_refs hnone q)
  obtain ⟨-, hmgmt, -⟩ := appendEntry_keeps p .reply u
  exact (steady_appendEntry (s := u) (hports.right p).profile .reply).keeps_of_reply hu
    (headsRight_of_port (s := u) (hheads.congr rfl) (appendEntry_others p .reply u) (headRight_appendEntry (s := u) (hheads p)))
    (by rw [hmgmt])

/-! ## A buffer placed on the ports of a set -/

/-- What the placing of a buffer keeps from port to port (R80). -/
structure Sound (s : State) : Prop where
  ports : PortsRight s
  heads : HeadsRight s
  telegrams : TelegramsFaithful s

theorem Sound.append {i : Fin Config.poolSize} {s u : State} (h : Sound s) (p : Port) (hports : u.ports = s.ports)
    (hkept : TelegramsKept s u) (hclock : u.clock = s.clock) (hreply : u.mgmt.reply = s.mgmt.reply) (hroom : (s.port p).hasRoom = true) :
    Sound (appendEntry p (.pool i) u) := by
  have hu : Sound u :=
    ⟨h.ports.congr hports, h.heads.congr hports, (steady_of_ports hports hkept hclock.ge).keeps_of_reply h.telegrams
      (h.heads.congr hports) hreply⟩
  have hroom' : (u.port p).hasRoom = true := by rw [State.port, hports]; exact hroom
  have hheads := headsRight_of_port hu.heads (appendEntry_others p (.pool i) u) (headRight_appendEntry (hu.heads p))
  obtain ⟨-, hmgmt, -⟩ := appendEntry_keeps p (.pool i) u
  exact ⟨portsRight_appendEntry hu.ports hroom', hheads,
    (steady_appendEntry (hu.ports.right p).profile _).keeps_of_reply hu.telegrams hheads (by rw [hmgmt])⟩

theorem Sound.enqueueOn {i : Fin Config.poolSize} {s : State} (h : Sound s) (p : Port) : Sound (enqueueOn i s p) := by
  unfold Machine.enqueueOn
  split
  · next hroom =>
    dsimp only
    cases hclaim : (s.buffer i).claim with
    | held ingress refs =>
      exact h.append p rfl (telegramsKept_setBuffer fun _ => by rw [hclaim]; trivial) rfl rfl hroom
    | free | filling _ | waiting _ => exact h.append p rfl (telegramsKept_of_pool rfl rfl) rfl rfl hroom
  · have hheads : HeadsRight (s.count p (refusalCounter (s.port p))) := headsRight_setPort h.heads ((h.heads p).same rfl rfl)
    exact ⟨portsRight_count h.ports _ _, hheads, (steady_count p _ s).keeps_of_reply h.telegrams hheads rfl⟩

theorem Sound.placed {i : Fin Config.poolSize} : ∀ (ports : List Port) {s : State}, Sound s → Sound (ports.foldl (Machine.enqueueOn i) s)
  | [], _, h => h
  | p :: rest, _, h => Sound.placed rest (h.enqueueOn p)

theorem telegramsFaithful_forward {s : State} {i : Fin Config.poolSize} {rest : List (Fin Config.poolSize)} {ingress : Port} {t : Telegram}
    {set : PortSet} (hs : TelegramsFaithful s) (htraffic : TrafficRight s) (hclaim : (s.buffer i).claim = .waiting ingress)
    (hcontrol : t.control = (s.buffer i).telegram.control) (hpayload : t.payload.length = (s.buffer i).telegram.payload.length) :
    TelegramsFaithful (enqueue i ingress t set { s with classQueue := rest }) := by
  obtain ⟨hports, haccounts, hheads⟩ := (trafficRight_iff s).1 htraffic
  have hbuffer := haccounts.buffers.2 i
  rw [hclaim] at hbuffer
  obtain ⟨-, hnamed, hnone⟩ := hbuffer
  have hwhole : t.Whole := by
    have hwas := ((telegramsRight_iff s).1 hs.2.1).1 i (by rw [hclaim]; trivial)
    rw [Telegram.Whole, Telegram.length] at hwas ⊢
    rw [hpayload, hcontrol, hwas]
  have hu : TelegramsFaithful { s with classQueue := rest } := telegramsFaithful_of_ports hs hheads rfl rfl rfl (le_refl _)
  have hbegins : Sound (State.setBuffer { s with classQueue := rest } i ⟨.held ingress 0, t⟩) :=
    ⟨hports.congr rfl, hheads.congr rfl,
      telegramsFaithful_setBuffer hu (hheads.congr rfl) hnone (not_mem_refs hnamed) fun _ => hwhole⟩
  have hplaced := hbegins.placed (i := i) set.ports
  unfold enqueue
  dsimp only
  split
  · exact (steady_freeBuffer _ i).keeps_of_reply hplaced.telegrams (hplaced.heads.congr rfl) rfl
  · exact hplaced.telegrams

/-! ## A bridge without traffic -/

theorem telegramsFaithful_of_empty {s : State} (hqueue : ∀ p, (s.port p).queue = []) (hrx : ∀ p, (s.port p).rx.buffer = none)
    (htx : ∀ p, (s.port p).tx.attempt = none) (hpool : s.pool = emptyPool) (hreply : s.mgmt.reply = none) : TelegramsFaithful s := by
  refine ⟨(receptionRight_iff s).2 fun p => receiving_of_none (hrx p), (telegramsRight_iff s).2 ⟨fun i hi => ?_, fun t ht => ?_⟩,
    fun p => sending_of_none (htx p), fun p e he => ?_⟩
  · rw [emptyPool_claim hpool] at hi
    exact hi.elim
  · rw [hreply] at ht
    cases ht
  · rw [hqueue] at he
    cases he

/-! ## Every move -/

/-- Every move keeps telegrams faithful where the traffic is in order. -/
theorem Move.telegramsFaithful {s t : State} (htraffic : TrafficRight s) (hs : TelegramsFaithful s) (hmove : Move s t) :
    TelegramsFaithful t := by
  have hafter := hmove.trafficRight htraffic
  obtain ⟨hports, haccounts, hheads⟩ := (trafficRight_iff s).1 htraffic
  cases hmove with
  | core hsame =>
    exact (steady_of_ports hsame.ports (telegramsKept_of_pool hsame.pool hsame.reply) hsame.clock).keeps hs hafter
  | tweak p y hy =>
    refine (steady_setPort hy.profile (fun e he => .inl (hy.queue ▸ he)) (fun h => ?_) fun h => h.tweak hy.tx).keeps hs hafter
    intro r hr
    rcases hy.rx with heq | heq | ⟨-, hlistening⟩
    · exact h r (heq ▸ hr)
    · rw [heq] at hr
      cases hrx : (s.port p).rx with
      | filling r0 =>
        rw [hrx] at hr
        cases hr
        exact h r0 hrx
      | search | skip | deaf => rw [hrx] at hr; cases hr
    · have hnone := hlistening.buffer_none
      rw [hr] at hnone
      cases hnone
  | advance p =>
    exact (steady_setPort (y := { s.port p with tx := nextCharacter s (s.port p).tx }) rfl (fun _ he => .inl he) id
      sending_nextCharacter).keeps hs hafter
  | drop p r y hrx hy =>
    have hfreed := (steady_freeBuffer s r.buffer).keeps_of_reply hs (hheads.congr rfl) rfl
    exact telegramsFaithful_setPort_rx (s := s.freeBuffer r.buffer) hfreed (hheads.congr rfl) (receiving_of_none hy.buffer_none)
  | header p i data r hrx hfree hbuffer hr => exact telegramsFaithful_header hs haccounts hheads hfree hbuffer hr
  | store p r r' t hrx hbuffer hfaithful => exact telegramsFaithful_store hs haccounts hheads hrx hbuffer hfaithful
  | accept p r hrx hwhole => exact telegramsFaithful_accept hs haccounts hheads hrx hwhole
  | rest p htx =>
    exact (steady_restTransmitter (fun _ _ => rfl) (telegramsKept_of_pool rfl rfl) rfl
      ⟨_, rfl, fun _ he => .inl he⟩).keeps hs hafter
  | pop p htx =>
    have hline := onlyLine_removeHead p s
    exact (steady_restTransmitter hline.othersKept (telegramsKept_removeHead p s) (onlyLine_clock hline)
      ⟨_, removeHead_port p s, fun _ he => .inl (List.mem_of_mem_tail he)⟩).keeps hs hafter
  | retry p e rest htx hqueue hlimit =>
    refine (steady_restTransmitter (onlyLine_setPort p s _).othersKept (telegramsKept_setPort s p _) rfl
      ⟨_, State.port_setPort_same .., fun e' he => ?_⟩).keeps hs hafter
    rcases List.mem_cons.1 he with rfl | hmem
    · obtain ⟨-, hdeadline⟩ := hs.2.2.2 p e (by rw [hqueue]; exact List.mem_cons_self)
      exact .inr ⟨hlimit, hdeadline⟩
    · exact .inl (by rw [hqueue]; exact List.mem_cons_of_mem _ hmem)
  | begin p htx => exact (steady_beginSending p s).keeps hs hafter
  | expire p ref hmem hsent =>
    have hline := ((onlyLine_setPort p s { s.port p with queue := (s.port p).queue.filter fun e => e.ref != ref }).trans
      (onlyLine_release p _ ref)).trans (onlyLine_workGone p _)
    refine Steady.keeps (p := p) ⟨hline.othersKept, ?_, (onlyLine_clock hline).ge, ?_, ?_, ?_, fun h => ?_⟩ hs hafter
    · exact ((telegramsKept_setPort s p _).trans (telegramsKept_release _ ref)).trans (telegramsKept_workGone p _)
    · rw [workGone_port, State.release_port, State.port_setPort_same]
    · rw [workGone_port, State.release_port, State.port_setPort_same]
      exact fun e he => .inl (List.mem_of_mem_filter he)
    · rw [workGone_port, State.release_port, State.port_setPort_same]
      exact id
    · rw [workGone_port, State.release_port, State.port_setPort_same]
      by_cases hwait : (s.port p).tx = .waitGap
      · rw [if_pos hwait]
        exact sending_of_none (restState_attempt _)
      · rw [if_neg hwait]
        exact h
  | requestBreak p hopen => exact (steady_requestBreak p s).keeps hs hafter
  | reply p t hunit hroom hwhole => exact telegramsFaithful_reply hs htraffic hunit hwhole
  | discard i rest ingress hqueue hclaim =>
    have hu : TelegramsFaithful { s with classQueue := rest } := telegramsFaithful_of_ports hs hheads rfl rfl rfl (le_refl _)
    exact (steady_freeBuffer _ i).keeps hu hafter
  | forward i rest ingress t set hqueue hclaim hset hcontrol hpayload =>
    exact telegramsFaithful_forward hs htraffic hclaim hcontrol hpayload
  | astray i rest hqueue hclaim => exact telegramsFaithful_of_ports hs hheads rfl rfl rfl (le_refl _)
  | close p mode hopen hmode =>
    have hline := onlyLine_closePort p mode s
    obtain ⟨v, hport⟩ := closePort_port_eq p mode s
    refine Steady.keeps (p := p) ⟨hline.othersKept, telegramsKept_closePort p mode s, (onlyLine_clock hline).ge, ?_, ?_, ?_, ?_⟩ hs hafter <;>
      rw [hport]
    · exact fun e he => absurd he List.not_mem_nil
    · exact fun _ => receiving_of_none rfl
    · exact fun _ => sending_of_none rfl
  | opens p mode hclosed hmode =>
    exact Steady.keeps (t := openPort p mode s)
      (steady_setPort rfl (fun _ he => .inl he) (fun _ => receiving_of_none rfl) fun _ => sending_of_none rfl) hs hafter
  | reset cause =>
    exact telegramsFaithful_of_empty (fun p => by rw [enterReset_port]; rfl) (fun p => by rw [enterReset_port]; rfl)
      (fun p => by rw [enterReset_port]; rfl) rfl rfl
  | startUp straps =>
    exact telegramsFaithful_of_empty (fun p => by rw [startUp_port]; rfl) (fun p => by rw [startUp_port]; exact started_rx_buffer _ _)
      (fun p => by rw [startUp_port]; exact started_attempt _ _) rfl rfl

/-- Settles O58: every row is a run of moves, and every move keeps the traffic in order and telegrams faithful. -/
theorem stepKeepsTelegramsFaithful : Obligations.StepKeepsTelegramsFaithful := by
  intro s t htraffic hs h
  have hboth : TrafficRight t ∧ TelegramsFaithful t :=
    step_keeps_of_move (P := fun u => TrafficRight u ∧ TelegramsFaithful u)
      (fun u v hu hmove => ⟨hmove.trafficRight hu.1, hmove.telegramsFaithful hu.1 hu.2⟩) ⟨htraffic, hs⟩ h
  exact hboth.2

/-! ## The part as delivered -/

theorem slot_delivered (slot : Byte) : RouteStore.delivered.slot slot = .blank := Vector.getElem_replicate ..

/-- A part as delivered has no setting of its own (R88, R139). -/
theorem loadSetting_delivered {α : Type} (slot : Byte) (decode : Image → Option α) (default : α) :
    loadSetting RouteStore.delivered slot decode default = default := by
  have hnone : configImage RouteStore.delivered slot = none := by
    unfold configImage
    rw [slot_delivered]
    split <;> rfl
  rw [loadSetting, hnone]
  rfl

theorem startUp_delivered {s : State} (hstore : s.store = RouteStore.delivered) (hrun : s.ctrl.running = none) (hclock : s.clock = 0)
    (hpending : s.pending = []) : startUp Straps.assumed (enterReset .powerOn s) = State.reset := by
  have hunquarantined : RouteStore.delivered.marks.map (!·) = Vector.replicate 16 false := Vector.map_replicate
  simp only [startUp, enterReset, State.reset, loadProfile, hstore, hrun, hclock, hpending, abortWork, loadSetting_delivered,
    hunquarantined]
  rfl

theorem reset_port (p : Port) : State.reset.port p = LinePort.started (Profile.default Straps.assumed.rate) 0 := by
  cases p <;> rfl

theorem storeRight_reset : StoreRight State.reset := by
  refine ⟨⟨rfl, fun w hw => ?_⟩, fun r hr => ?_, fun w hw => ?_, fun i => ?_, fun _ g => ?_⟩
  · cases hw
  · cases hr
  · cases hw
  · show slotRight i (RouteStore.delivered.slot i)
    rw [slot_delivered]
    trivial
  · have hmarked : RouteStore.delivered.marks[g] = true := Vector.getElem_replicate ..
    have hunquarantined : State.reset.ctrl.quarantined[g] = false := Vector.getElem_replicate ..
    rw [hunquarantined]
    exact (congrArg (!·) hmarked).symm

/-- Settles O55: a bridge without traffic on a blank store meets every condition, and start-up finds no setting in a blank store. -/
theorem resetStateIsRight : Obligations.ResetStateIsRight := by
  have hqueue (p : Port) : (State.reset.port p).queue = [] := by rw [reset_port]; rfl
  have hrx (p : Port) : (State.reset.port p).rx.buffer = none := by rw [reset_port]; exact started_rx_buffer _ _
  have htx (p : Port) : (State.reset.port p).tx.attempt = none := by rw [reset_port]; exact started_attempt _ _
  have hports : PortsRight State.reset := (portsRight_iff _).2 fun p => by rw [reset_port]; exact right_started (legal_default _) 0
  refine ⟨⟨(trafficRight_iff _).2 ⟨hports, accounts_of_empty hqueue hrx rfl rfl rfl rfl rfl, fun p => headRight_of_none (htx p)⟩,
    telegramsFaithful_of_empty hqueue hrx htx rfl rfl, storeRight_reset, ⟨Nat.zero_le 3, nofun, nofun⟩⟩, ?_⟩
  intro s hstore hrun hclock hpending
  exact congrArg _ (startUp_delivered hstore hrun hclock hpending)

end Sys2Proof.Machine
end

section
/-! SUPPORT. Management commands, each as its row: which are refused, what the rest perform and report (R65 to R68, R85, R86, R107, R122,
R131, R146, R149, R152, R155). -/

namespace Sys2Proof.Machine

/-! ## Bytes of replies (11.2, 11.3) -/

theorem countBytes_eq (n : Count) : ∃ a b c d : Byte, countBytes n = [a, b, c, d]
    ∧ n.toNat = 16777216 * a.toNat + 65536 * b.toNat + 256 * c.toNat + d.toNat := by
  refine ⟨_, _, _, _, rfl, ?_⟩
  have hlt := n.isLt
  simp only [BitVec.extractLsb'_toNat, Nat.shiftRight_eq_div_pow]
  omega

theorem twoBytes_eq {n : Nat} (h : n < 65536) : ∃ hi lo : Byte, twoBytes n = [hi, lo] ∧ n = numberOf hi lo := by
  refine ⟨_, _, rfl, ?_⟩
  simp only [numberOf, BitVec.toNat_ofNat]
  omega

/-- The port byte (11.2). -/
theorem portOf_cases : portOf 0 = some .a ∧ portOf 1 = some .b ∧ portOf 2 = some .c ∧ ∀ port : Byte, 3 ≤ port.toNat → portOf port = none := by
  refine ⟨rfl, rfl, rfl, fun port h => ?_⟩
  unfold portOf
  split
  any_goals omega
  rfl

theorem portOf_none {port : Byte} (h : 3 ≤ port.toNat) : portOf port = none := portOf_cases.2.2.2 port h

/-! ## Payloads of no command (R152, R162) -/

theorem vectorOf_none {n : Nat} {l : List Byte} (h : l.length ≠ n) : vectorOf n l = none := dif_neg h

theorem vectorOf_toList {n : Nat} (v : Vector Byte n) : vectorOf n v.toList = some v := by
  rw [vectorOf, dif_pos Vector.length_toList]
  exact congrArg some (Vector.toArray_inj.1 Array.toArray_toList)

theorem readCommand_stage (target b : Byte) (image : List Byte) :
    readCommand 0x10 (target :: b :: image) = match vectorOf 18 (b :: image) with
      | some v => .stage target (some v)
      | none => .bad 0x10 := rfl

theorem readCommand_unlock (bytes : List Byte) :
    readCommand 0x20 bytes = match vectorOf 8 bytes with
      | some v => .unlock v
      | none => .bad 0x20 := rfl

/-- A code whose number of arguments suits no command is refused at step 1 (R152). -/
theorem readCommand_unknown {code : Byte} {args : List Byte} (h : (payloadLengths code.toNat).contains (args.length + 1) = false) :
    readCommand code args = .bad code := by
  by_cases hstage : code = 0x10
  · subst hstage
    rcases args with _ | ⟨target, _ | ⟨b, image⟩⟩
    · rfl
    · simp [payloadLengths] at h
    · rw [readCommand_stage, vectorOf_none (by simpa [payloadLengths] using h)]
  by_cases hunlock : code = 0x20
  · subst hunlock
    rw [readCommand_unlock, vectorOf_none (by simpa [payloadLengths] using h)]
  have hcode : code.toNat ≠ 16 ∧ code.toNat ≠ 32 :=
    ⟨fun e => hstage (BitVec.eq_of_toNat_eq e), fun e => hunlock (BitVec.eq_of_toNat_eq e)⟩
  unfold readCommand
  generalize code.toNat = n at h hcode ⊢
  obtain hlt | ⟨k, rfl⟩ : n < 48 ∨ ∃ k, n = k + 48 := by
    by_cases hlt : n < 48
    · exact .inl hlt
    · exact .inr ⟨n - 48, by omega⟩
  · obtain ⟨hnotStage, hnotUnlock⟩ := hcode
    interval_cases n <;> rcases args with _ | ⟨a, _ | ⟨b, _ | ⟨c, rest⟩⟩⟩ 
    any_goals contradiction
    all_goals rfl
  · rfl

/-- A payload whose code or length suits no command is refused at step 1 (R152). -/
theorem decodePayload_unknown {payload : List Byte} (h : payloadKnown payload = false) : decodePayload payload = .bad (payload.headD 0) := by
  cases payload with
  | nil => rfl
  | cons code args => exact readCommand_unknown h

/-! ## The rows -/

/-- Settles O38: the hand-over of a command to a unit that is not ready is one count. -/
theorem commandFindsUnitBusy : Obligations.CommandFindsUnitBusy := by
  intro c s ingress source m hc hs hbusy
  have hnot : ¬ s.mgmt.isReady = true := by
    rcases hbusy with h | h <;> simp [ManagementUnit.isReady, h]
  rw [exec_of_commandOf hc, whenStarted_started hs, takeCommand, if_neg hnot]

/-- A command that the access check of a LOCKED bridge refuses (R149). -/
theorem exec_locked {c : Instr} {s : State} {ingress : Port} {source : Byte} {m : MgmtCommand} (hc : commandOf c = some (ingress, source, m))
    (hs : Ready s) (hlevel : s.mgmt.level = .locked) (hrefused : allowedLocked s.straps.maint ingress m = false) :
    exec c s = replied ingress source m.code .locked [] s := by
  have hpasses : ¬ accessPasses s ingress m = true := by rw [accessPasses, hlevel]; simp [hrefused]
  rw [exec_of_commandOf hc, whenStarted_started hs.1, takeCommand, if_pos hs.2, examineCommand, if_neg hpasses]
  rfl

/-- A payload of no command is refused at either access level (R152). -/
theorem exec_unknownCommand {s : State} (hs : Ready s) (ingress : Port) (source : Byte) {payload : List Byte}
    (h : payloadKnown payload = false) :
    exec (.unknownCommand ingress source payload) s = replied ingress source (payload.headD 0) .badCommand [] s := by
  have hpasses : accessPasses s ingress (.bad (payload.headD 0)) = true := by
    unfold accessPasses
    split <;> rfl
  exact exec_command (m := .bad (payload.headD 0)) (by rw [commandOf, decodePayload_unknown h]) hs hpasses rfl

theorem operationOf_eq_wipe {b : Byte} : operationOf b = some .wipe ↔ b = 5 := by
  constructor
  · intro h
    unfold operationOf at h
    split at h <;> cases h
    next hb => exact BitVec.eq_of_toNat_eq hb
  · rintro rfl
    rfl

theorem operationOf_eq_blankCheck {b : Byte} : operationOf b = some .blankCheck ↔ b = 6 := by
  constructor
  · intro h
    unfold operationOf at h
    split at h <;> cases h
    next hb => exact BitVec.eq_of_toNat_eq hb
  · rintro rfl
    rfl

/-- Settles O39: the access check command by command. -/
theorem lockedBridgeRefuses : Obligations.LockedBridgeRefuses := by
  intro c s ingress source m hc hs hlevel
  refine ⟨fun payload hpayload hunknown => hpayload ▸ exec_unknownCommand hs ingress source hunknown, fun h => exec_locked hc hs hlevel ?_⟩
  cases m with
  | clearCounters _ | portControl _ _ | sendBreak _ | restart => rfl
  | stage _ _ | abortStage => exact decide_eq_false h
  | execute operation echo =>
    rcases h with h | ⟨hwipe, hcheck⟩
    · simp [allowedLocked, h]
    · simp only [allowedLocked, operationOf_eq_wipe, operationOf_eq_blankCheck, decide_eq_false hwipe, decide_eq_false hcheck, Bool.or_self,
        Bool.and_false]
  | status | readEntry _ | readPortCounters _ _ | unlock _ | raiseProtection _ | clearStoreFlags | bad _ => exact h.elim

/-! ## STATUS and READ ENTRY (R101, R155) -/

theorem foldl_add_eq_sum {α : Type} (f : α → Nat) (l : List α) (n : Nat) : l.foldl (fun n x => n + f x) n = n + (l.map f).sum := by
  induction l generalizing n with
  | nil => rfl
  | cons x l ih => rw [List.foldl_cons, ih, List.map_cons, List.sum_cons, Nat.add_assoc]

theorem Vector.getD_toList {α : Type} {n : Nat} (v : Vector α n) (k : Fin n) (default : α) : v.toList.getD k.val default = v[k] := by
  rw [List.getD_eq_getElem _ _ (by rw [Vector.length_toList]; exact k.isLt), Vector.getElem_toList]
  rfl

theorem map_range_eq_map_finRange {α : Type} (n : Nat) (f : Nat → α) : (List.range n).map f = (List.finRange n).map fun k => f k.val := by
  rw [← List.map_coe_finRange_eq_range, List.map_map]
  rfl

/-- The quarantine bits as a sum of powers of two (11.3). -/
theorem quarantineBits_eq (c : StoreController) :
    quarantineBits c = ((List.range 16).map fun g => if c.quarantined.toList.getD g false then 2 ^ g else 0).sum := by
  rw [quarantineBits, foldl_add_eq_sum, Nat.zero_add, map_range_eq_map_finRange]
  exact congrArg List.sum (List.map_congr_left fun g _ => by rw [Vector.getD_toList])

theorem tornCount_eq (s : State) :
    tornCount s = (List.range 256).countP fun n => decide (s.readSlot (BitVec.ofNat 8 n) = .torn) := by
  rw [tornCount, ← List.map_coe_finRange_eq_range, List.countP_map, List.countP_eq_length_filter]
  refine congrArg List.length (List.filter_congr fun i _ => ?_)
  have hslot : BitVec.ofNat 8 i.val = BitVec.ofFin i := BitVec.eq_of_toNat_eq (Nat.mod_eq_of_lt i.isLt)
  rw [Function.comp_apply, hslot]
  rfl

theorem reportedHits_eq (s : State) (slot : Byte) : reportedHits s slot = s.hits.toList.getD slot.toNat 0 := by
  unfold reportedHits
  split
  · next h => exact (Vector.getD_toList s.hits ⟨slot.toNat, h⟩ 0).symm
  · next h => exact (List.getD_eq_default _ _ (by rw [Vector.length_toList]; omega)).symm

/-- The bits of the store flags byte (11.3). -/
theorem flagsByte_bits : ∀ (ready done access protect format : Bool) (found : BlankResult),
    let byte : Byte := BitVec.ofNat 8
      (ready.toNat + 2 * done.toNat + 4 * access.toNat + 8 * protect.toNat + 16 * format.toNat + 32 * found.code)
    byte.getLsbD 0 = ready ∧ byte.getLsbD 1 = done ∧ byte.getLsbD 2 = access ∧ byte.getLsbD 3 = protect ∧ byte.getLsbD 4 = format
      ∧ byte.getLsbD 5 = decide (found = .blank) ∧ byte.getLsbD 6 = decide (found = .notBlank) ∧ byte.getLsbD 7 = false := by
  intro ready done access protect format found
  cases found <;> revert ready done access protect format <;> decide

theorem storeStateData_eq (c : StoreController) :
    c.stateCode = (if c.waiting ≠ none then 4 else if c.running ≠ none then (if c.staged ≠ none then 3 else 2)
        else if c.staged ≠ none then 1 else 0)
      ∧ (c.flagsByte.getLsbD 0 = true ↔ c.staged = none ∧ c.waiting = none)
      ∧ (c.flagsByte.getLsbD 1 = true ↔ c.running = none ∧ c.waiting = none)
      ∧ c.flagsByte.getLsbD 2 = c.accessError ∧ c.flagsByte.getLsbD 3 = c.protectViolation
      ∧ c.flagsByte.getLsbD 4 = c.formatError
      ∧ (c.flagsByte.getLsbD 5 = true ↔ c.blankResult = .blank) ∧ (c.flagsByte.getLsbD 6 = true ↔ c.blankResult = .notBlank)
      ∧ c.flagsByte.getLsbD 7 = false ∧ storeStateData c = [c.stateCode, c.flagsByte, boundaryByte c.boundary] := by
  obtain ⟨hready, hdone, haccess, hprotect, hformat, hblank, hnotBlank, hlast⟩ :=
    flagsByte_bits c.ready c.done c.accessError c.protectViolation c.formatError c.blankResult
  rw [StoreController.flagsByte]
  refine ⟨?_, ?_, ?_, haccess, hprotect, hformat, ?_, ?_, hlast, rfl⟩
  · simp only [StoreController.stateCode, Option.isSome_iff_ne_none]
  · rw [hready]
    simp [StoreController.ready]
  · rw [hdone]
    simp [StoreController.done]
  · rw [hblank, decide_eq_true_iff]
  · rw [hnotBlank, decide_eq_true_iff]

theorem boundaryByte_toNat (g : Segment) : (boundaryByte (some g)).toNat = g.val := by
  have hlt := g.isLt
  rw [boundaryByte, BitVec.toNat_ofNat]
  exact Nat.mod_eq_of_lt (by omega)

/-- A read passes the access check at either level (R149). -/
theorem accessPasses_of_allowed {s : State} {ingress : Port} {m : MgmtCommand} (h : allowedLocked s.straps.maint ingress m = true) :
    accessPasses s ingress m = true := by
  unfold accessPasses
  split
  · rfl
  · exact h

/-- Settles O40: STATUS and READ ENTRY leave the state as it is, and their data are the model's in the places of 11.3. -/
theorem readsChangeNothing : Obligations.ReadsChangeNothing := by
  refine ⟨⟨rfl, rfl, rfl, rfl, rfl, rfl, rfl, rfl, fun _ => ⟨rfl, rfl⟩, rfl, rfl, fun _ => rfl, rfl, rfl, rfl, rfl, rfl, rfl, rfl, rfl,
    fun cause h => ?_, boundaryByte_toNat, rfl⟩, fun n => twoBytes_eq, countBytes_eq, storeStateData_eq,
    fun s ingress source hs => ⟨?_, fun slot => ?_, fun payload => exec_unknownCommand hs ingress source⟩⟩
  · cases cause with
    | lineReset p => exact absurd rfl (h p)
    | powerOn | resetPin | restart => rfl
  · rw [← quarantineBits_eq, ← tornCount_eq]
    exact exec_command (m := .status) rfl hs (accessPasses_of_allowed rfl) rfl
  · rw [← reportedHits_eq]
    exact exec_command (m := .readEntry slot) rfl hs (accessPasses_of_allowed rfl) rfl

/-! ## Commands of the Store Controller (R122, R131, R146) -/

/-- A store command that the access check lets pass (R106, R156). -/
theorem exec_storeCommand {c : Instr} {s : State} {ingress : Port} {source : Byte} {m : MgmtCommand} {result : Result}
    {ctrl : StoreController} (hc : commandOf c = some (ingress, source, m)) (hs : Ready s) (hpasses : accessPasses s ingress m = true)
    (hstore : performCommand ingress m s = performStore s (result, ctrl)) :
    exec c s = storeReplied ingress source m.code result { s with ctrl := ctrl } := by
  rw [exec_of_commandOf hc]
  exact whenStarted_takeCommand_store (rc := (result, ctrl)) source hs hpasses hstore

theorem flagged_iff (c : StoreController) :
    c.flagged = true ↔ c.accessError = true ∨ c.protectViolation = true ∨ c.formatError = true := by
  simp [StoreController.flagged, or_assoc]

section
variable {c : StoreController} {target : Byte} {image : Option Image}

theorem stageRecord_busy (hflagged : c.flagged = false) (h : c.staged.isSome = true ∨ c.waiting.isSome = true) :
    stageRecord target image c = (.accessError, { c with accessError := true }) := by
  rw [stageRecord, if_neg (Bool.eq_false_iff.1 hflagged), if_pos (by simpa using h)]
  rfl

theorem stageRecord_ready (hflagged : c.flagged = false) (hstaged : c.staged = none) (hwaiting : c.waiting = none) :
    stageRecord target image c = (.ok, { c with staged := some ⟨target, image⟩ }) := by
  rw [stageRecord, if_neg (Bool.eq_false_iff.1 hflagged), if_neg (by simp [hstaged, hwaiting])]

end

/-- Settles O41: the three outcomes of `stageRecord`. -/
theorem stageLatchesRecord : Obligations.StageLatchesRecord := by
  refine ⟨flagged_iff, fun s ingress source target image ⟨hs, hmaint⟩ => ?_⟩
  have hexec {result : Result} {ctrl : StoreController} (h : stageRecord target image s.ctrl = (result, ctrl)) :
      exec (.stage ingress source target image) s = storeReplied ingress source 0x10 result { s with ctrl := ctrl } :=
    exec_storeCommand (m := .stage target image) rfl hs (accessPasses_of_maint (by simp [allowedLocked]) hmaint)
      (by rw [performCommand, h])
  exact ⟨fun hflagged => hexec (stageRecord_flagged hflagged target image), fun hflagged h => hexec (stageRecord_busy hflagged h),
    fun hflagged hstaged hwaiting => hexec (stageRecord_ready hflagged hstaged hwaiting)⟩

theorem segmentOf_none {n : Byte} (h : 16 ≤ n.toNat) : segmentOf n = none := dif_neg (not_lt.2 h)

theorem segmentOf_some {n : Byte} {g : Segment} (h : n.toNat = g.val) : segmentOf n = some g := by
  have hlt : n.toNat < 16 := h ▸ g.isLt
  rw [segmentOf, dif_pos hlt]
  exact congrArg some (Fin.ext h)

theorem raisesBoundary_iff (g : Segment) (boundary : Option Segment) :
    raisesBoundary g boundary = true ↔ ∀ b, boundary = some b → g < b := by
  cases boundary with
  | none => exact ⟨fun _ _ h => (by cases h), fun _ => rfl⟩
  | some b =>
    rw [raisesBoundary, decide_eq_true_iff]
    exact ⟨fun h b' hb => Option.some.inj hb ▸ h, fun h => h b rfl⟩

/-- An erase of every segment reaches segment 15, which every boundary protects (R127, R136). -/
theorem any_covered (g h : Segment) : ((List.finRange 16).any fun k => decide (h ≤ k) && decide (g ≤ k)) = true := by
  rw [List.any_eq_true]
  have hg := g.isLt
  have hh := h.isLt
  refine ⟨15, List.mem_finRange _, ?_⟩
  rw [Bool.and_eq_true, decide_eq_true_iff, decide_eq_true_iff, Fin.le_def, Fin.le_def]
  exact ⟨Nat.lt_succ_iff.1 hh, Nat.lt_succ_iff.1 hg⟩

/-- The work that a boundary would cover (R127). -/
theorem coversWork_iff (g : Segment) (c : StoreController) :
    coversWork g c = true ↔ (∃ r h, c.running = some r ∧ r.work.segment = some h ∧ g ≤ h)
      ∨ (∃ r, c.running = some r ∧ ((∃ x h, r.work = .eraseAll x h) ∨ ∃ x h, r.work = .wipe x h))
      ∨ ∃ w, c.waiting = some w ∧ g ≤ w.segment := by
  rw [coversWork, Bool.or_eq_true, ← or_assoc]
  refine or_congr ?_ ?_
  · match c.running with
    | none => simp
    | some ⟨.slot w, start, since, continued⟩ => simp [Work.segment]
    | some ⟨.eraseSegment h, start, since, continued⟩ => simp [Work.segment]
    | some ⟨.eraseAll x h, start, since, continued⟩ => exact iff_of_true (any_covered g h) (.inr ⟨_, rfl, .inl ⟨x, h, rfl⟩⟩)
    | some ⟨.wipe x h, start, since, continued⟩ => exact iff_of_true (any_covered g h) (.inr ⟨_, rfl, .inr ⟨x, h, rfl⟩⟩)
    | some ⟨.blankCheck x, start, since, continued⟩ => simp [Work.segment]
  · cases c.waiting <;> simp

/-- Settles O45: CLEAR STORE FLAGS is one assignment; the outcomes of `raiseBoundary` case by case. -/
theorem flagsClearedAndProtectionRaised : Obligations.FlagsClearedAndProtectionRaised := by
  intro s ingress source hs
  have hraise {n : Byte} {result : Result} {ctrl : StoreController} (h : raiseBoundary n s.ctrl = (result, ctrl)) :
      exec (.raiseProtection ingress source n) s = storeReplied ingress source 0x14 result { s with ctrl := ctrl } :=
    exec_storeCommand (m := .raiseProtection n) rfl hs (accessPasses_of_allowed rfl) (by rw [performCommand, h])
  refine ⟨exec_storeCommand (m := .clearStoreFlags) rfl hs (accessPasses_of_allowed rfl) rfl, fun n hn => hraise ?_, fun n g hn => ?_⟩
  · rw [raiseBoundary, segmentOf_none hn]
  · have hsegment : raiseBoundary n s.ctrl =
        if raisesBoundary g s.ctrl.boundary = false then (.badArgument, s.ctrl)
        else if coversWork g s.ctrl then (.accessError, s.ctrl.flag .access)
        else (.ok, { s.ctrl with boundary := some g }) := by
      rw [raiseBoundary, segmentOf_some hn]
    refine ⟨fun b hb hle => hraise ?_, fun hraises => ⟨fun hcovered => hraise ?_, fun hcovered => hraise ?_⟩⟩ <;> rw [hsegment]
    · have hnot : ¬ raisesBoundary g s.ctrl.boundary = true := fun h => not_lt.2 hle ((raisesBoundary_iff g _).1 h b hb)
      rw [if_pos (Bool.eq_false_iff.2 hnot)]
    · rw [(raisesBoundary_iff g _).2 hraises, if_neg Bool.noConfusion, if_pos ((coversWork_iff g s.ctrl).2 hcovered)]
      rfl
    · rw [(raisesBoundary_iff g _).2 hraises, if_neg Bool.noConfusion, if_neg (mt (coversWork_iff g s.ctrl).1 hcovered)]

/-! ## Counters (R85, R86) -/

theorem groupData_eq (s : State) (p : Port) (g : Fin 3) :
    groupData (s.port p).counters g = (List.map (s.counter p) (match g with
      | 0 => [.rxGood, .rxChecksum, .rxNoisyDropped, .rxBroken, .rxTimeout, .rxNoBuffer]
      | 1 => [.dropRoute, .dropOverflow, .busySkips, .mgmtBusy, .txDone, .txArbLost]
      | 2 => [.txCollision, .dropRetry, .dropStale, .dropQueueFull, .dropPortClosed, .faults])).flatMap countBytes := by
  fin_cases g <;> rfl

/-- Settles O28: the groups place by place, and the outcomes of the two commands. -/
theorem countersAreReadAndCleared : Obligations.CountersAreReadAndCleared := by
  refine ⟨portOf_cases, countBytes_eq, fun s ingress source port group hs => ?_⟩
  have hread {result : Result} {data : List Byte} (h : performReadPortCounters port group s = ⟨result, data, s⟩) :
      exec (.readPortCounters ingress source port group) s = replied ingress source 0x03 result data s :=
    exec_command (m := .readPortCounters port group) rfl hs (accessPasses_of_allowed rfl) h
  refine ⟨fun p g hport hgroup => hread ?_, fun hnone => hread ?_, fun hopen p hport => ?_, fun hopen hport => ?_⟩
  · have hlt : group.toNat < 3 := hgroup ▸ g.isLt
    have hg : (⟨group.toNat, hlt⟩ : Fin 3) = g := Fin.ext hgroup
    have hdone : performReadPortCounters port group s = ⟨.ok, [port, group] ++ groupData (s.port p).counters g, s⟩ := by
      rw [performReadPortCounters, hport]
      exact (dif_pos hlt).trans (by rw [hg])
    rw [hdone]
    exact congrArg (fun data => Performed.mk .ok ([port, group] ++ data) s) (groupData_eq s p g)
  · unfold performReadPortCounters
    cases hport : portOf port with
    | none => rfl
    | some p =>
      rw [hport] at hnone
      have hge : ¬ group.toNat < 3 := not_lt.2 (hnone.resolve_left (Option.some_ne_none p))
      exact dif_neg hge
  · exact exec_command (m := .clearCounters port) rfl hs (accessPasses_open hopen ..) (by rw [performCommand, performClearCounters, hport]; rfl)
  · exact exec_command (m := .clearCounters port) rfl hs (accessPasses_open hopen ..) (by rw [performCommand, performClearCounters, hport])

/-! ## PORT CONTROL and SEND BREAK (R52, R65 to R68) -/

/-- What an action makes of its port (R65). -/
def portAction (ingress p : Port) (s : State) : Action → Result × State
  | .restore => restorePort ingress p s
  | .disable => disablePort p s
  | .enable => enablePort p s

theorem performPortControl_eq {ingress p : Port} {port action : Byte} {s t : State} {result : Result} (act : Action)
    (hport : portOf port = some p) (haction : actionOf action = some act) (h : portAction ingress p s act = (result, t)) :
    performPortControl ingress port action s = ⟨result, [(t.port p).mode.code], t⟩ := by
  rw [performPortControl, hport, haction]
  cases act with
  | restore | disable | enable =>
    exact congrArg (fun rs : Result × State => Performed.mk rs.1 [(rs.2.port p).mode.code] rs.2) h

theorem restorePort_refused {ingress p : Port} {s : State} (h : (s.port p).mode ≠ .isolated ∨ p = ingress) :
    restorePort ingress p s = (.portState, s) := by
  unfold restorePort
  cases hmode : (s.port p).mode with
  | isolated => exact if_pos (h.resolve_left fun hne => hne hmode)
  | running | recovering | off => rfl

theorem enablePort_refused {p : Port} {s : State} (h : (s.port p).mode ≠ .off) : enablePort p s = (.portState, s) := by
  unfold enablePort
  cases hmode : (s.port p).mode with
  | off => exact absurd hmode h
  | running | recovering | isolated => rfl

theorem disablePort_open {p : Port} {s : State} (h : (s.port p).mode.isOpen = true) : disablePort p s = (.ok, closePort p .off s) := by
  unfold disablePort
  cases hmode : (s.port p).mode with
  | running | recovering => rfl
  | isolated | off => rw [hmode] at h; cases h

/-- A closed port is OFF after DISABLE, whether it was or not (R67). -/
theorem disablePort_closed {p : Port} {s : State} (h : (s.port p).mode.isOpen = false) :
    disablePort p s = (.ok, s.setPort p { s.port p with mode := .off }) := by
  unfold disablePort
  cases hmode : (s.port p).mode with
  | running | recovering => rw [hmode] at h; cases h
  | isolated => rfl
  | off =>
    have hself : { s.port p with mode := .off } = s.port p := by rw [← hmode]
    dsimp only
    rw [hself, State.setPort_port]

theorem performPortControl_badAction {ingress : Port} {port action : Byte} {s : State} (h : action = 0 ∨ 3 < action.toNat) :
    performPortControl ingress port action s = ⟨.badArgument, [], s⟩ := by
  have hnone : actionOf action = none := by
    unfold actionOf
    rcases h with rfl | h
    · rfl
    · split
      any_goals omega
      rfl
  rw [performPortControl, hnone]
  split
  any_goals contradiction
  all_goals rfl

theorem performPortControl_badPort {ingress : Port} {port action : Byte} {s : State} (h : portOf port = none) :
    performPortControl ingress port action s = ⟨.badArgument, [], s⟩ := by
  rw [performPortControl, h]

theorem exec_portControl {c : Instr} {s t : State} {ingress : Port} {source other action : Byte} {result : Result} {data : List Byte}
    (hc : commandOf c = some (ingress, source, .portControl other action)) (hs : Ready s) (hopen : s.mgmt.level = .open)
    (hdone : performPortControl ingress other action s = ⟨result, data, t⟩) (haddress : t.address = s.address) :
    exec c s = replied ingress source 0x21 result data t := by
  have hperform : performCommand ingress (.portControl other action) s = ⟨result, data, t⟩ := by rw [performCommand, hdone]
  exact exec_command (m := .portControl other action) hc hs (accessPasses_open hopen ingress _) hperform haddress
/-- Settles O25: the outcomes of the three actions, port state by port state. -/
theorem portControlMovesNamedPort : Obligations.PortControlMovesNamedPort := by
  refine ⟨portOf_cases, fun s ingress p source port hs hopen hport => ?_⟩
  refine ⟨fun hmode hp => exec_portControl (action := 1) rfl hs hopen ?_ rfl, fun h => exec_portControl (action := 1) rfl hs hopen ?_ rfl,
    fun hmode => exec_portControl (action := 3) rfl hs hopen ?_ rfl, fun hmode => exec_portControl (action := 3) rfl hs hopen ?_ rfl,
    fun hmode => exec_portControl (action := 2) rfl hs hopen ?_ ?_, fun hmode => exec_portControl (action := 2) rfl hs hopen ?_ rfl,
    fun action h => exec_portControl (action := action) rfl hs hopen (performPortControl_badAction h) rfl,
    fun other h => ⟨exec_portControl (action := 1) rfl hs hopen ?_ rfl, exec_portControl (action := 2) rfl hs hopen ?_ rfl,
      exec_portControl (action := 3) rfl hs hopen ?_ rfl⟩⟩
  · refine (performPortControl_eq .restore (t := openPort p .recovering s) hport rfl ?_).trans (by rw [openPort, State.port_setPort_same]; rfl)
    simp only [portAction, restorePort, hmode, if_neg hp]
  · exact performPortControl_eq .restore hport rfl (restorePort_refused h)
  · refine (performPortControl_eq .enable (t := openPort p .running s) hport rfl ?_).trans (by rw [openPort, State.port_setPort_same]; rfl)
    simp only [portAction, enablePort, hmode]
  · exact performPortControl_eq .enable hport rfl (enablePort_refused hmode)
  · refine (performPortControl_eq .disable hport rfl (disablePort_open hmode)).trans ?_
    rw [(closePort_port p .off s).1]
    rfl
  · obtain ⟨-, -, -, -, -, -, -, haddress, -⟩ := onlyLine_iff.1 (onlyLine_closePort p .off s)
    exact haddress
  · refine (performPortControl_eq .disable hport rfl (disablePort_closed hmode)).trans ?_
    rw [State.port_setPort_same]
    rfl
  all_goals exact performPortControl_badPort (portOf_none h)

/-- Work that appears concerns a transmitter in IDLE only (R38). -/
theorem workAppears_busy {p : Port} {s : State} (h : (s.port p).tx ≠ .idle) : workAppears p s = s := by
  unfold workAppears
  cases htx : (s.port p).tx with
  | idle => exact absurd htx h
  | waitGap | arbitrating _ | sending _ | breaking _ | halted => rfl

theorem workAppears_idle {p : Port} {s : State} (h : (s.port p).tx = .idle) :
    workAppears p s = if (s.port p).line.idle then beginSending p s else s.setPort p { s.port p with tx := .waitGap } := by
  rw [workAppears, h]

/-- What a break request makes of a port with none pending (R38, R52). -/
theorem requestBreak_granted {p : Port} {s : State} (hopen : (s.port p).mode.isOpen = true) (hnone : (s.port p).breakPending = false) :
    requestBreak p s = (.ok, s.setPort p
      (if (s.port p).tx = .idle ∧ (s.port p).line.idle = true then
        { s.port p with
          tx := .breaking s.clock, ownStart := false
          line := { (s.port p).line with idle := false, rest := none, run := none } }
      else { s.port p with breakPending := true, tx := if (s.port p).tx = .idle then .waitGap else (s.port p).tx })) := by
  rw [requestBreak, if_pos (by simp [hopen, hnone])]
  refine congrArg (Prod.mk Result.ok) ?_
  by_cases hidle : (s.port p).tx = .idle
  · rw [workAppears_idle (by rw [State.port_setPort_same]; exact hidle), State.port_setPort_same]
    by_cases hline : (s.port p).line.idle = true
    · simp [beginSending, hidle, hline, hnone]
    · simp [hidle, hline]
  · rw [workAppears_busy (by rw [State.port_setPort_same]; exact hidle)]
    simp [hidle]

theorem requestBreak_refused {p : Port} {s : State} (h : (s.port p).mode.isOpen = false ∨ (s.port p).breakPending = true) :
    requestBreak p s = (.portState, s) := by
  rw [requestBreak, if_neg]
  rcases h with h | h <;> simp [h]

/-- Settles O26: a break is requested of an open port with none pending, and refused elsewhere. -/
theorem sendBreakRequestsOneBreak : Obligations.SendBreakRequestsOneBreak := by
  refine ⟨portOf_cases, fun s ingress p source port hs hopen hport => ?_⟩
  have hpasses (m : MgmtCommand) : accessPasses s ingress m = true := accessPasses_open hopen ingress m
  have hperform {result : Result} {t : State} (h : requestBreak p s = (result, t)) :
      performCommand ingress (.sendBreak port) s = ⟨result, [(t.port p).mode.code], t⟩ := by
    rw [performCommand, performSendBreak, hport]
    dsimp only
    rw [h]
  refine ⟨fun hmode hnone => ?_, fun h => exec_command (m := .sendBreak port) rfl hs (hpasses _) (hperform (requestBreak_refused h)),
    fun other h => exec_command (m := .sendBreak other) rfl hs (hpasses _) (by rw [performCommand, performSendBreak, portOf_none h])⟩
  refine exec_command (m := .sendBreak port) rfl hs (hpasses _) ((hperform (requestBreak_granted hmode hnone)).trans ?_)
  rw [State.port_setPort_same]
  split <;> rfl

end Sys2Proof.Machine
end

section
/-! SUPPORT. Images (R125, R126, R163): which are read, byte by byte, and what an image that is read gives. -/

namespace Sys2Proof.Machine

/-! ## Bytes (11.4) -/

theorem portSetOf_isEmpty_iff (b : Byte) : (portSetOf b).isEmpty = true ↔ b.toNat % 8 = 0 := by
  revert b
  decide +kernel

theorem conditionOf_isEmpty_iff (b : Byte) : (conditionOf b).isEmpty = true ↔ b.toNat % 16 = 0 := by
  revert b
  decide +kernel

theorem portSetOf_reads (b : Byte) : (portSetOf b).Reads b := ⟨rfl, rfl, rfl⟩

theorem classMatchOf_eq (b : Byte) :
    classMatchOf b = if b.toNat ≤ 7 ∨ b = 255 then some (if b.toNat = 255 then none else some b.toNat) else none := by
  unfold classMatchOf
  by_cases hany : b = 0xFF
  · subst hany
    rfl
  · have hne : b.toNat ≠ 255 := fun h => hany (BitVec.eq_of_toNat_eq h)
    rw [if_neg hany]
    by_cases hle : b.toNat ≤ 7
    · rw [if_pos hle, if_pos (.inl hle), if_neg hne]
    · rw [if_neg hle, if_neg (by rintro (h | h) <;> contradiction)]

theorem falseActionOf_none_iff (b : Byte) : falseActionOf b = none ↔ b.toNat / 16 % 4 = 0 := by
  unfold falseActionOf
  split
  · simp_all
  · simp_all
  · simp_all
  · next h1 h2 h3 =>
    have hne : b.toNat / 16 % 4 ≠ 1 ∧ b.toNat / 16 % 4 ≠ 2 ∧ b.toNat / 16 % 4 ≠ 3 := ⟨h1, h2, h3⟩
    exact ⟨fun _ => by omega, fun _ => rfl⟩

theorem falseActionOf_some {b : Byte} {a : FalseAction} (h : falseActionOf b = some a) :
    (a = .continue ↔ b.toNat / 16 % 4 = 1) ∧ (a = .drop ↔ b.toNat / 16 % 4 = 2) ∧ (a = .default ↔ b.toNat / 16 % 4 = 3) := by
  unfold falseActionOf at h
  split at h <;> cases h <;> simp_all

theorem overflowOf_none_iff (b : Byte) : overflowOf b = none ↔ b.toNat % 4 = 3 := by
  unfold overflowOf
  split
  · simp_all
  · simp_all
  · simp_all
  · next h0 h1 h2 =>
    have hne : b.toNat % 4 ≠ 0 ∧ b.toNat % 4 ≠ 1 ∧ b.toNat % 4 ≠ 2 := ⟨h0, h1, h2⟩
    exact ⟨fun _ => by omega, fun _ => rfl⟩

theorem overflowOf_some {b : Byte} {a : Overflow} (h : overflowOf b = some a) :
    (a = .wrap ↔ b.toNat % 4 = 0) ∧ (a = .clamp ↔ b.toNat % 4 = 1) ∧ (a = .drop ↔ b.toNat % 4 = 2) := by
  unfold overflowOf at h
  split at h <;> cases h <;> simp_all

theorem word_eq_numberOf (hi lo : Byte) : word hi lo = numberOf hi lo := rfl

theorem numberOf_lt (hi lo : Byte) : numberOf hi lo < 65536 := by
  have hhi := hi.isLt
  have hlo := lo.isLt
  unfold numberOf
  omega

theorem signedWord_eq (hi lo : Byte) : signedWord hi lo = twosComplementOf hi lo := by
  have hlo := lo.isLt
  unfold signedWord twosComplementOf
  rw [word_eq_numberOf]
  unfold numberOf
  split <;> split <;> omega

/-! ## Field tests -/

/-- The checks of a field test's image (R125, R163). -/
def TestFits (i : Image) : Prop :=
  i[7].getLsbD 4 = false ∧ i[8].toNat + (if i[7].getLsbD 6 then 2 else 1) ≤ 31 ∧ i[7].toNat % 16 ≠ 0
    ∧ i[17].toNat / 16 % 4 ≠ 0 ∧ ReferenceFits i

/-- The width and the reference value that an image spells. -/
def widthOf (i : Image) : Width := if i[7].getLsbD 6 then .word else .byte

def referenceOf (i : Image) : Int := if i[7].getLsbD 5 then signedWord i[9] i[10] else (word i[9] i[10] : Int)

theorem referenceOf_inRange_iff (i : Image) : inFieldRange (widthOf i) (i[7].getLsbD 5) (referenceOf i) = true ↔ ReferenceFits i := by
  have hlt := numberOf_lt i[9] i[10]
  unfold ReferenceFits inFieldRange widthOf referenceOf
  rw [signedWord_eq, word_eq_numberOf]
  unfold twosComplementOf
  cases i[7].getLsbD 6 <;> cases i[7].getLsbD 5 <;> simp [fieldRange, Width.modulus] <;> (try split) <;> omega

theorem width_bytes (i : Image) : (widthOf i).bytes = if i[7].getLsbD 6 then 2 else 1 := by
  unfold widthOf
  split <;> rfl

/-- The field test that an image spells, but for its checks. -/
def testOf (i : Image) (a : FalseAction) : FieldTest :=
  ⟨i[8].toNat, widthOf i, i[7].getLsbD 5, referenceOf i, word i[11] i[12], conditionOf i[7], a⟩

/-- The checks of a field test but for its false action (R125). -/
def testChecks (i : Image) : Bool :=
  !i[7].getLsbD 4 && decide (i[8].toNat + (widthOf i).bytes ≤ 31) && !(conditionOf i[7]).isEmpty
    && inFieldRange (widthOf i) (i[7].getLsbD 5) (referenceOf i)

theorem fieldTestOf_eq (i : Image) :
    fieldTestOf i = (falseActionOf i[17]).bind fun a => if testChecks i then some (testOf i a) else none := by
  have hchecks : (i[7].getLsbD 4 || decide (31 < i[8].toNat + (widthOf i).bytes) || (conditionOf i[7]).isEmpty
      || !inFieldRange (widthOf i) (i[7].getLsbD 5) (referenceOf i)) = !testChecks i := by
    simp only [testChecks, Bool.not_and, Bool.not_not, ← decide_not, not_le]
  unfold fieldTestOf
  cases falseActionOf i[17] with
  | none => rfl
  | some a =>
    refine (congrArg (fun b : Bool => if b then none else some (testOf i a)) hchecks).trans ?_
    cases testChecks i <;> rfl

theorem testChecks_iff (i : Image) : testChecks i = true ∧ falseActionOf i[17] ≠ none ↔ TestFits i := by
  simp only [testChecks, TestFits, Bool.and_eq_true, Bool.not_eq_true', decide_eq_true_iff, Bool.eq_false_iff, ne_eq, conditionOf_isEmpty_iff,
    falseActionOf_none_iff, referenceOf_inRange_iff, width_bytes]
  tauto

/-- An image whose field test passes its checks spells one (R125, R163). -/
theorem fieldTestOf_some_iff (i : Image) (f : FieldTest) :
    fieldTestOf i = some f ↔ TestFits i ∧ ∃ a, falseActionOf i[17] = some a ∧ f = testOf i a := by
  rw [fieldTestOf_eq, ← testChecks_iff]
  cases falseActionOf i[17] with
  | none => simp
  | some a => cases testChecks i <;> simp [eq_comm]

theorem testOf_reads {i : Image} {a : FalseAction} (ha : falseActionOf i[17] = some a) : (testOf i a).Reads i := by
  obtain ⟨hcontinue, hdrop, hdefault⟩ := falseActionOf_some ha
  refine ⟨rfl, rfl, rfl, ?_, rfl, rfl, hcontinue, hdrop, hdefault⟩
  show referenceOf i = _
  rw [referenceOf, signedWord_eq]
  split <;> rfl

/-! ## Route entries -/

/-- The route entry that an image spells, but for its checks. -/
def entryOf (i : Image) (cls : Option Nat) (test : Option FieldTest) (adjust : Option Adjustment) : RouteEntry where
  ingress := portSetOf i[1]
  destination := ⟨i[2], i[3]⟩
  source := ⟨i[4], i[5]⟩
  cls := cls
  test := test
  forward := portSetOf i[13]
  rewrite := if i[13].getLsbD 3 then some i[14] else none
  adjust := adjust

/-- The part of a route entry that its test control governs (R125, R163). -/
def bodyOf (i : Image) (cls : Option Nat) : Option RouteEntry :=
  if i[7].getLsbD 7 then
    (fieldTestOf i).bind fun f =>
      if i[13].getLsbD 4 then (adjustmentOf i).map fun a => entryOf i cls (some f) (some a) else some (entryOf i cls (some f) none)
  else if i[13].getLsbD 4 || (falseActionOf i[17]).isSome then none
  else some (entryOf i cls none none)

theorem decodeRoute_eq (i : Image) :
    decodeRoute i = if i[0] ≠ 1 ∨ (portSetOf i[1]).isEmpty = true then none else (classMatchOf i[6]).bind (bodyOf i) := by
  unfold decodeRoute bodyOf
  simp only [Bool.or_eq_true, decide_eq_true_iff]
  cases classMatchOf i[6] with
  | none => rfl
  | some cls =>
    cases fieldTestOf i with
    | none => rfl
    | some f => cases adjustmentOf i <;> rfl

theorem adjustmentOf_some_iff (i : Image) (a : Adjustment) :
    adjustmentOf i = some a ↔ ∃ policy, overflowOf i[17] = some policy ∧ a = ⟨signedWord i[15] i[16], policy⟩ := by
  unfold adjustmentOf
  cases overflowOf i[17] <;> simp [eq_comm]

/-- The checks of the part that the test control governs (R125, R163). -/
def BodyFits (i : Image) : Prop :=
  (i[7].getLsbD 7 = true → TestFits i) ∧ (i[7].getLsbD 7 = false → i[17].toNat / 16 % 4 = 0 ∧ i[13].getLsbD 4 = false)
    ∧ (i[13].getLsbD 4 = true → i[17].toNat % 4 ≠ 3)

/-- What a decoded body gives (R163). -/
def BodyReads (i : Image) (cls : Option Nat) (e : RouteEntry) : Prop :=
  e = entryOf i cls e.test e.adjust
    ∧ (i[7].getLsbD 7 = false → e.test = none) ∧ (i[7].getLsbD 7 = true → ∃ f, e.test = some f ∧ f.Reads i)
    ∧ (i[13].getLsbD 4 = false → e.adjust = none)
    ∧ (i[13].getLsbD 4 = true → ∃ a, e.adjust = some a ∧ a.amount = twosComplementOf i[15] i[16]
      ∧ (a.policy = .wrap ↔ i[17].toNat % 4 = 0) ∧ (a.policy = .clamp ↔ i[17].toNat % 4 = 1)
      ∧ (a.policy = .drop ↔ i[17].toNat % 4 = 2))

theorem bodyOf_some {i : Image} {cls : Option Nat} (h : BodyFits i) : ∃ e, bodyOf i cls = some e ∧ BodyReads i cls e := by
  obtain ⟨htest, hnone, hadjust⟩ := h
  unfold bodyOf BodyReads
  cases hseven : i[7].getLsbD 7 with
  | true =>
    have hfits := htest hseven
    obtain ⟨a, ha⟩ := Option.ne_none_iff_exists'.1 ((testChecks_iff i).2 hfits).2
    rw [if_pos rfl, (fieldTestOf_some_iff i _).2 ⟨hfits, a, ha, rfl⟩, Option.bind_some]
    cases hfour : i[13].getLsbD 4 with
    | true =>
      obtain ⟨policy, hpolicy⟩ := Option.ne_none_iff_exists'.1 (mt (overflowOf_none_iff i[17]).1 (hadjust hfour))
      refine ⟨entryOf i cls (some (testOf i a)) (some ⟨signedWord i[15] i[16], policy⟩), ?_, rfl, fun h => (by cases h),
        fun _ => ⟨_, rfl, testOf_reads ha⟩, fun h => (by cases h), fun _ => ⟨_, rfl, signedWord_eq .., overflowOf_some hpolicy⟩⟩
      rw [if_pos rfl, (adjustmentOf_some_iff i _).2 ⟨policy, hpolicy, rfl⟩]
      rfl
    | false =>
      exact ⟨entryOf i cls (some (testOf i a)) none, if_neg Bool.false_ne_true, rfl, fun h => (by cases h),
        fun _ => ⟨_, rfl, testOf_reads ha⟩, fun _ => rfl, fun h => by cases h⟩
  | false =>
    obtain ⟨hfalse, hfour⟩ := hnone hseven
    have hnoAction := (falseActionOf_none_iff i[17]).2 hfalse
    rw [if_neg Bool.false_ne_true, hfour, hnoAction]
    exact ⟨entryOf i cls none none, rfl, rfl, fun _ => rfl, fun h => (by cases h), fun _ => rfl, fun h => by cases h⟩

theorem bodyFits_of_bodyOf {i : Image} {cls : Option Nat} {e : RouteEntry} (h : bodyOf i cls = some e) : BodyFits i := by
  unfold bodyOf at h
  unfold BodyFits
  cases hseven : i[7].getLsbD 7 with
  | true =>
    rw [hseven, if_pos rfl, Option.bind_eq_some_iff] at h
    obtain ⟨f, hf, h⟩ := h
    refine ⟨fun _ => ((fieldTestOf_some_iff i f).1 hf).1, fun h => (by cases h), fun hfour hpolicy => ?_⟩
    rw [if_pos hfour, Option.map_eq_some_iff] at h
    obtain ⟨a, ha, -⟩ := h
    obtain ⟨policy, hsome, -⟩ := (adjustmentOf_some_iff i a).1 ha
    rw [(overflowOf_none_iff i[17]).2 hpolicy] at hsome
    cases hsome
  | false =>
    rw [hseven, if_neg Bool.false_ne_true] at h
    split at h
    · cases h
    · next hnot =>
      simp only [Bool.or_eq_true, not_or, Bool.not_eq_true, Option.isSome_eq_false_iff, Option.isNone_iff_eq_none, falseActionOf_none_iff]
        at hnot
      exact ⟨fun h => (by cases h), fun _ => ⟨hnot.2, hnot.1⟩, fun hfour => by rw [hnot.1] at hfour; cases hfour⟩

theorem classMatchOf_some_iff (b : Byte) : classMatchOf b ≠ none ↔ b.toNat ≤ 7 ∨ b = 255 := by
  rw [classMatchOf_eq]
  split <;> simp_all

theorem routeImageFits_iff (i : Image) : RouteImageFits i ↔
    ¬ (i[0] ≠ 1 ∨ (portSetOf i[1]).isEmpty = true) ∧ classMatchOf i[6] ≠ none ∧ BodyFits i := by
  rw [classMatchOf_some_iff, portSetOf_isEmpty_iff, not_or, not_not]
  exact ⟨fun ⟨h0, h1, h6, hbody⟩ => ⟨⟨h0, h1⟩, h6, hbody⟩, fun ⟨⟨h0, h1⟩, h6, hbody⟩ => ⟨h0, h1, h6, hbody⟩⟩

/-- A route entry image that the format check lets pass is read as 11.4 lays it out (R125, R163). -/
theorem decodeRoute_reads {i : Image} (h : RouteImageFits i) : ∃ e, decodeRoute i = some e ∧ e.Reads i := by
  obtain ⟨hkind, hcls, hbody⟩ := (routeImageFits_iff i).1 h
  obtain ⟨cls, hsome⟩ := Option.ne_none_iff_exists'.1 hcls
  obtain ⟨e, he, hshape, hnoTest, htest, hnoAdjust, hadjust⟩ := bodyOf_some (cls := cls) hbody
  refine ⟨e, by rw [decodeRoute_eq, if_neg hkind, hsome, Option.bind_some, he], ?_⟩
  have hclsValue : cls = if i[6].toNat = 255 then none else some i[6].toNat := by
    rw [classMatchOf_eq, if_pos ((classMatchOf_some_iff _).1 hcls)] at hsome
    exact (Option.some.inj hsome).symm
  rw [hshape]
  exact ⟨portSetOf_reads _, rfl, rfl, hclsValue, hnoTest, htest, portSetOf_reads _, rfl, hnoAdjust, hadjust⟩

theorem decodeRoute_isSome_iff (i : Image) : (decodeRoute i).isSome = true ↔ RouteImageFits i := by
  constructor
  · intro h
    obtain ⟨e, he⟩ := Option.isSome_iff_exists.1 h
    rw [decodeRoute_eq] at he
    split at he
    · cases he
    · next hkind =>
      obtain ⟨cls, hcls, hbody⟩ := Option.bind_eq_some_iff.1 he
      exact (routeImageFits_iff i).2 ⟨hkind, by rw [hcls]; exact Option.some_ne_none cls, bodyFits_of_bodyOf hbody⟩
  · intro h
    obtain ⟨e, he, -⟩ := decodeRoute_reads h
    rw [he]
    rfl

/-! ## Configuration images -/

theorem decodeIdentity_isSome_iff (i : Image) : (decodeIdentity i).isSome = true ↔ i[0] = 2 ∧ i[1].toNat ≤ 254 := by
  have hle : i[1] ≠ 255 ↔ i[1].toNat ≤ 254 := by
    have hlt := i[1].isLt
    rw [ne_eq, ← BitVec.toNat_inj]
    show ¬ i[1].toNat = 255 ↔ _
    omega
  unfold decodeIdentity
  split
  · next h => exact iff_of_true rfl ⟨h.1, hle.1 h.2⟩
  · next h => exact iff_of_false Bool.false_ne_true fun k => h ⟨k.1, hle.2 k.2⟩

theorem decodeProtection_isSome_iff (i : Image) :
    (decodeProtection i).isSome = true ↔ i[0] = 3 ∧ (i[1].toNat ≤ 15 ∨ i[1].toNat = 255) := by
  unfold decodeProtection
  split
  · next h => exact iff_of_false Bool.false_ne_true fun k => h k.1
  · next h =>
    rw [ne_eq, not_not] at h
    split
    · next hany => exact iff_of_true rfl ⟨h, .inr (by rw [hany]; rfl)⟩
    · next hany =>
      have hne : i[1].toNat ≠ 255 := fun e => hany (BitVec.eq_of_toNat_eq e)
      rw [Option.isSome_map, segmentOf]
      split
      · next hlt => exact iff_of_true rfl ⟨h, .inl (Nat.le_of_lt_succ hlt)⟩
      · next hlt => exact iff_of_false Bool.false_ne_true fun k => k.2.elim (fun hle => hlt (Nat.lt_succ_of_le hle)) hne

theorem decodeAccessCode_isSome_iff (i : Image) : (decodeAccessCode i).isSome = true ↔ i[0] = 4 := by
  unfold decodeAccessCode
  split
  · next h => exact iff_of_true rfl h
  · next h => exact iff_of_false Bool.false_ne_true h

theorem bitRateOf_none_iff (b : Byte) : bitRateOf b = none ↔ ¬ (1 ≤ b.toNat ∧ b.toNat ≤ 5) := by
  unfold bitRateOf
  split
  iterate 5 · simp_all
  · next h1 h2 h3 h4 h5 =>
    have hne : b.toNat ≠ 1 ∧ b.toNat ≠ 2 ∧ b.toNat ≠ 3 ∧ b.toNat ≠ 4 ∧ b.toNat ≠ 5 := ⟨h1, h2, h3, h4, h5⟩
    exact ⟨fun _ => by omega, fun _ => rfl⟩

theorem bitRateOf_some {b : Byte} {rate : BitRate} (h : bitRateOf b = some rate) :
    (rate = .r9600 ∧ b.toNat = 1) ∨ (rate = .r19200 ∧ b.toNat = 2) ∨ (rate = .r38400 ∧ b.toNat = 3)
      ∨ (rate = .r62500 ∧ b.toNat = 4) ∨ (rate = .r125000 ∧ b.toNat = 5) := by
  unfold bitRateOf at h
  split at h <;> cases h <;> simp_all

/-- A port profile image that the format check lets pass is read as 11.4 lays it out (R126, R163). -/
theorem decodeProfile_reads {i : Image} (h : ProfileImageFits i) : ∃ f, decodeProfile i = some f ∧ f.Reads i ∧ f.Legal := by
  obtain ⟨h0, h1, hrate1, hrate5, h3, h4, h4', h5, h5', hlimit, hlimit'⟩ := h
  obtain ⟨rate, hrate⟩ := Option.ne_none_iff_exists'.1 (mt (bitRateOf_none_iff i[2]).1 (not_not.2 ⟨hrate1, hrate5⟩))
  unfold decodeProfile
  rw [hrate]
  dsimp only
  rw [if_pos ⟨h0, h1, h3, h4, h4', h5, h5', hlimit, hlimit'⟩]
  refine ⟨_, rfl, ⟨?_, bitRateOf_some hrate, ?_, rfl, rfl, rfl, portSetOf_reads _⟩, ⟨h4, h4', h5, h5', hlimit, hlimit'⟩⟩
  · rw [decide_eq_true_iff, ← BitVec.toNat_inj]
    rfl
  · have hzero : i[3] = 0 ↔ i[3].toNat = 0 := by
      rw [← BitVec.toNat_inj]
      rfl
    rw [← hzero]
    dsimp only
    split
    · next h => exact iff_of_true rfl h
    · next h => exact iff_of_false NoisePolicy.noConfusion h

theorem decodeProfile_isSome_iff (i : Image) : (decodeProfile i).isSome = true ↔ ProfileImageFits i := by
  constructor
  · intro h
    unfold decodeProfile at h
    split at h
    · cases h
    · next rate hrate =>
      have hrange : 1 ≤ i[2].toNat ∧ i[2].toNat ≤ 5 := by
        by_contra hnot
        rw [(bitRateOf_none_iff _).2 hnot] at hrate
        cases hrate
      split at h
      · next hfits =>
        obtain ⟨h0, h1, h3, hrest⟩ := hfits
        exact ⟨h0, h1, hrange.1, hrange.2, h3, hrest⟩
      · cases h
  · intro h
    obtain ⟨f, hf, -⟩ := decodeProfile_reads h
    rw [hf]
    rfl

theorem byte_eq_iff (b : Byte) {n : Nat} (hn : n < 256) : b = BitVec.ofNat 8 n ↔ b.toNat = n := by
  rw [← BitVec.toNat_inj, BitVec.toNat_ofNat, Nat.mod_eq_of_lt hn]

/-- The format check slot by slot (R125, R126). -/
theorem imageSuits_iff (slot : Byte) (i : Image) : imageSuits slot i = true ↔ ImageFits slot i := by
  unfold imageSuits ImageFits
  have hbyte {n : Nat} (hn : n < 256) (hne : slot ≠ BitVec.ofNat 8 n) : slot.toNat ≠ n := fun e => hne ((byte_eq_iff slot hn).2 e)
  by_cases hroute : slot.toNat < 240
  · rw [if_pos hroute, decodeRoute_isSome_iff]
    exact ⟨fun h => .inl ⟨hroute, h⟩, fun h => h.elim (fun k => k.2) fun k => by omega⟩
  rw [if_neg hroute]
  by_cases h240 : slot = 240
  · subst h240
    rw [if_pos rfl, decodeIdentity_isSome_iff]
    simp
  rw [if_neg h240]
  by_cases h241 : slot = 241
  · subst h241
    rw [if_pos rfl, decodeProtection_isSome_iff]
    simp
  rw [if_neg h241]
  by_cases h242 : slot = 242
  · subst h242
    rw [if_pos rfl, decodeAccessCode_isSome_iff]
    simp
  rw [if_neg h242]
  have hrange : slot.toNat ≠ 240 ∧ slot.toNat ≠ 241 ∧ slot.toNat ≠ 242 :=
    ⟨hbyte (by decide) h240, hbyte (by decide) h241, hbyte (by decide) h242⟩
  by_cases hprofile : slot.toNat ≤ 245
  · rw [if_pos hprofile, decodeProfile_isSome_iff]
    refine ⟨fun h => .inr (.inr (.inr (.inr ⟨by omega, hprofile, h⟩))), ?_⟩
    rintro (⟨h, -⟩ | ⟨h, -⟩ | ⟨h, -⟩ | ⟨h, -⟩ | ⟨-, -, h⟩)
    iterate 4 · omega
    · exact h
  · rw [if_neg hprofile]
    exact ⟨fun h => (by cases h), fun h => by omega⟩

theorem decodeProtection_reads {i : Image} (h : (decodeProtection i).isSome = true) : ∃ boundary, decodeProtection i = some boundary
    ∧ (i[1].toNat = 255 → boundary = none) ∧ (i[1].toNat ≠ 255 → ∃ g : Segment, boundary = some g ∧ g.val = i[1].toNat) := by
  obtain ⟨h0, hrange⟩ := (decodeProtection_isSome_iff i).1 h
  unfold decodeProtection
  rw [if_neg (not_not.2 h0)]
  by_cases hany : i[1] = 0xFF
  · rw [if_pos hany]
    exact ⟨none, rfl, fun _ => rfl, fun hne => absurd (by rw [hany]; rfl) hne⟩
  · have hne : i[1].toNat ≠ 255 := fun e => hany (BitVec.eq_of_toNat_eq e)
    have hlt : i[1].toNat < 16 := by omega
    rw [if_neg hany, segmentOf, dif_pos hlt]
    exact ⟨some ⟨i[1].toNat, hlt⟩, rfl, fun e => absurd e hne, fun _ => ⟨_, rfl, rfl⟩⟩

theorem decodeAccessCode_reads {i : Image} (h : i[0] = 4) : ∃ code, decodeAccessCode i = some code ∧ ∀ k, k < 8 → code[k]? = i[k + 1]? := by
  refine ⟨_, if_pos h, fun k hk => ?_⟩
  interval_cases k <;> rfl

/-- What an image that the format check lets pass gives, slot by slot (R163). -/
theorem image_reads (i : Image) :
    (RouteImageFits i → ∃ e, decodeRoute i = some e ∧ e.Reads i)
      ∧ (ImageFits 240 i → decodeIdentity i = some i[1])
      ∧ (ImageFits 241 i → ∃ boundary, decodeProtection i = some boundary
        ∧ (i[1].toNat = 255 → boundary = none)
        ∧ (i[1].toNat ≠ 255 → ∃ g : Segment, boundary = some g ∧ g.val = i[1].toNat))
      ∧ (ImageFits 242 i → ∃ code, decodeAccessCode i = some code ∧ ∀ k, k < 8 → code[k]? = i[k + 1]?)
      ∧ (ProfileImageFits i → ∃ f, decodeProfile i = some f ∧ f.Reads i ∧ f.Legal) := by
  refine ⟨decodeRoute_reads, fun h => ?_, fun h => decodeProtection_reads ((imageSuits_iff 241 i).2 h), fun h => ?_, decodeProfile_reads⟩
  · have hsome : (decodeIdentity i).isSome = true := (imageSuits_iff 240 i).2 h
    unfold decodeIdentity at hsome ⊢
    split at hsome
    · next hfits => rw [if_pos hfits]
    · cases hsome
  · exact decodeAccessCode_reads ((decodeAccessCode_isSome_iff i).1 ((imageSuits_iff 242 i).2 h))

/-! ## The nine checks (R123) -/

section
variable {s : State} {ingress : Port} {operation echo : Byte} {st : Staged} {o : Operation} {w : Work}

/-- Checks 1 to 6, each an access error (R123, R124). -/
structure EarlyChecks (s : State) (ingress : Port) (operation echo : Byte) (st : Staged) (o : Operation) (w : Work) : Prop where
  operation : operationOf operation = some o
  echo : echo = st.target
  maint : o = .wipe → s.straps.maint = some ingress
  behind : mayLaunchBehind o s.ctrl.running = true
  work : workOf o st = some w

theorem launchChecks_unstaged (h : s.ctrl.staged = none) : launchChecks ingress operation echo s = .error .access := by
  rw [launchChecks, h]

/-- Past checks 1 to 6 (R125 to R127). -/
theorem launchChecks_late (hst : s.ctrl.staged = some st) (h : EarlyChecks s ingress operation echo st o w) :
    launchChecks ingress operation echo s =
      if formatPasses w = false then .error .format
      else if slotStatePasses s w = false then .error .access
      else if protectionPasses s.ctrl.boundary w = false then .error .protect
      else .ok w := by
  have hmaint : ¬ (o = .wipe ∧ s.straps.maint ≠ some ingress) := fun hw => hw.2 (h.maint hw.1)
  have hbehind : ¬ mayLaunchBehind o s.ctrl.running = false := by rw [h.behind]; exact Bool.noConfusion
  rw [launchChecks, hst]
  dsimp only
  rw [h.operation]
  dsimp only
  rw [if_neg (not_not.2 h.echo), if_neg hmaint, if_neg hbehind, h.work]

/-- A failure among checks 1 to 6 (R123, R124). -/
theorem launchChecks_early (hst : s.ctrl.staged = some st) (h : ∀ o w, ¬ EarlyChecks s ingress operation echo st o w) :
    launchChecks ingress operation echo s = .error .access := by
  rw [launchChecks, hst]
  dsimp only
  split
  · rfl
  · next o ho =>
    split; · rfl
    next hecho =>
    split; · rfl
    next hmaint =>
    split; · rfl
    next hbehind =>
    split
    · rfl
    · next w hw =>
      refine absurd ⟨ho, not_not.1 hecho, fun e => ?_, by simpa using hbehind, hw⟩ (h o w)
      by_contra hne
      exact hmaint ⟨e, hne⟩

end

/-! ## EXECUTE as a row -/

section
variable {c : Instr} {s : State} {ingress : Port} {source operation echo : Byte}

/-- An EXECUTE that the access check lets pass (R123). -/
theorem exec_execute {result : Result} {ctrl : StoreController} (hc : commandOf c = some (ingress, source, .execute operation echo))
    (hs : Ready s) (hpasses : accessPasses s ingress (.execute operation echo) = true)
    (h : executeStore ingress operation echo s = (result, ctrl)) :
    exec c s = storeReplied ingress source 0x11 result { s with ctrl := ctrl } :=
  exec_storeCommand (m := .execute operation echo) hc hs hpasses (by rw [performCommand, h])

theorem executeStore_flagged (h : s.ctrl.flagged = true) : executeStore ingress operation echo s = (.storeFlags, s.ctrl) := if_pos h

theorem executeStore_error {e : StoreError} (hflagged : s.ctrl.flagged = false) (h : launchChecks ingress operation echo s = .error e) :
    executeStore ingress operation echo s = (e.result, { s.ctrl.flag e with staged := none }) := by
  rw [executeStore, if_neg (Bool.eq_false_iff.1 hflagged), h]

theorem executeStore_ok {w : Work} (hflagged : s.ctrl.flagged = false) (h : launchChecks ingress operation echo s = .ok w) :
    executeStore ingress operation echo s = (.ok, launch s.clock w s.ctrl) := by
  rw [executeStore, if_neg (Bool.eq_false_iff.1 hflagged), h]

end

/-! ## Launches -/

/-- The state of its slot that a PROGRAM or RETIRE needs (R124). -/
def SlotWork.SlotFits (s : State) : SlotWork → Prop
  | .program slot _ => s.readSlot slot = .blank
  | .retire slot => ∃ image, s.readSlot slot = .written image

theorem slotStatePasses_iff (s : State) (w : SlotWork) :
    slotStatePasses s (.slot w) = true ↔ w.SlotFits s ∧ worksOnSlot w.target s.ctrl.running = false := by
  unfold SlotWork.SlotFits
  cases w with
  | program slot image =>
    simp only [slotStatePasses, SlotWork.target, Bool.and_eq_true, Bool.not_eq_true']
    cases s.readSlot slot <;> simp
  | retire slot =>
    simp only [slotStatePasses, SlotWork.target, Bool.and_eq_true, Bool.not_eq_true']
    cases s.readSlot slot <;> simp

theorem launchChecks_ok {s : State} {ingress : Port} {operation echo : Byte} {st : Staged} {o : Operation} {w : Work}
    (hst : s.ctrl.staged = some st) (h : EarlyChecks s ingress operation echo st o w) (hformat : formatPasses w = true)
    (hslot : slotStatePasses s w = true) (hprotect : protectionPasses s.ctrl.boundary w = true) :
    launchChecks ingress operation echo s = .ok w := by
  rw [launchChecks_late hst h, if_neg (by rw [hformat]; exact Bool.noConfusion), if_neg (by rw [hslot]; exact Bool.noConfusion),
    if_neg (by rw [hprotect]; exact Bool.noConfusion)]

end Sys2Proof.Machine
end

section
/-! SUPPORT. EXECUTE: what launches and what is refused (R123 to R129, R132, R136). -/

namespace Sys2Proof.Machine

/-- A PROGRAM or RETIRE whose image and slot pass the checks of its format and state (R123 to R126). -/
structure SlotLaunch (s : State) (st : Staged) (w : SlotWork) (operation : Byte) (o : Operation) : Prop where
  operation : operationOf operation = some o
  kind : o.isSlotWork = true
  work : workOf o st = some (.slot w)
  target : w.target = st.target
  format : formatPasses (.slot w) = true
  slot : w.SlotFits s

theorem slotLaunch_program {s : State} {st : Staged} {image : Image} (himage : st.image = some image)
    (hsuits : imageSuits st.target image = true) (hblank : s.readSlot st.target = .blank) :
    SlotLaunch s st (.program st.target image) 1 .program :=
  ⟨rfl, rfl, by rw [workOf, himage]; rfl, rfl, hsuits, hblank⟩

theorem slotLaunch_retire {s : State} {st : Staged} (hslot : st.target.toNat < 240) (hwritten : ∃ image, s.readSlot st.target = .written image) :
    SlotLaunch s st (.retire st.target) 2 .retire :=
  ⟨rfl, rfl, rfl, rfl, decide_eq_true hslot, hwritten⟩

section
variable {s : State} {ingress : Port} {st : Staged} {w : SlotWork} {operation : Byte} {o : Operation}

theorem SlotLaunch.earlyChecks (h : SlotLaunch s st w operation o) (hbehind : ∀ r, s.ctrl.running = some r → r.work.isSlotWork = true) :
    EarlyChecks s ingress operation st.target st o (.slot w) := by
  refine ⟨h.operation, rfl, fun e => ?_, ?_, h.work⟩
  · have hkind := h.kind
    rw [e] at hkind
    cases hkind
  · unfold mayLaunchBehind
    cases hrun : s.ctrl.running with
    | none => rfl
    | some r => exact Bool.and_eq_true_iff.2 ⟨h.kind, hbehind r hrun⟩

theorem SlotLaunch.launchChecks (h : SlotLaunch s st w operation o) (hst : s.ctrl.staged = some st)
    (hbehind : ∀ r, s.ctrl.running = some r → r.work.isSlotWork = true) (hother : worksOnSlot st.target s.ctrl.running = false)
    (hprotect : boundaryProtects s.ctrl.boundary (segmentOfSlot st.target) = false) :
    launchChecks ingress operation st.target s = .ok (.slot w) := by
  refine launchChecks_ok hst (h.earlyChecks hbehind) h.format ((slotStatePasses_iff s w).2 ⟨h.slot, by rw [h.target]; exact hother⟩) ?_
  show (!boundaryProtects s.ctrl.boundary (segmentOfSlot w.target)) = true
  rw [h.target, hprotect]
  rfl

end

/-- A launch where nothing runs (R128, R132). -/
theorem launch_idle {now : Nat} {w : Work} {c : StoreController} (h : c.running = none) :
    launch now w c = startAtLaunch now w { c with staged := none } := by
  simp [launch, h]

/-- A launch behind what runs (R123, R132). -/
theorem launch_behind {now : Nat} {w : SlotWork} {c : StoreController} {r : Running} (h : c.running = some r) :
    launch now (.slot w) c = { c with staged := none, waiting := some w } := by
  simp [launch, h]

/-- WIPE and BLANK CHECK pass the access check of a LOCKED bridge on the maintenance port (R149). -/
theorem accessPasses_execute {s : State} {ingress : Port} {operation echo : Byte}
    (hoperation : operationOf operation = some .wipe ∨ operationOf operation = some .blankCheck)
    (h : s.mgmt.level = .open ∨ s.straps.maint = some ingress) : accessPasses s ingress (.execute operation echo) = true :=
  accessPasses_of_maint (by rcases hoperation with e | e <;> simp [allowedLocked, e]) h

/-- An EXECUTE that launches (R123, R128). -/
theorem exec_launch {c : Instr} {s : State} {ingress : Port} {source operation echo : Byte} {w : Work}
    (hc : commandOf c = some (ingress, source, .execute operation echo)) (hs : Ready s)
    (hpasses : accessPasses s ingress (.execute operation echo) = true) (hflagged : s.ctrl.flagged = false)
    (h : launchChecks ingress operation echo s = .ok w) :
    exec c s = storeReplied ingress source 0x11 .ok { s with ctrl := launch s.clock w s.ctrl } :=
  exec_execute hc hs hpasses (executeStore_ok hflagged h)

/-- Settles O42: the checks pass one by one, and `launch` starts the work or has it wait. -/
theorem executeLaunchesOperation : Obligations.ExecuteLaunchesOperation := by
  refine ⟨image_reads, fun s ingress source st hs hflagged hst => ⟨fun w c hopen hcases hprotect => ?_, fun hidle => ?_⟩⟩
  · obtain ⟨operation, o, hc, hlaunch⟩ : ∃ operation o, commandOf c = some (ingress, source, .execute operation st.target)
        ∧ SlotLaunch s st w operation o := by
      rcases hcases with ⟨rfl, image, himage, rfl, hsuits, hblank⟩ | ⟨rfl, rfl, hslot, hwritten⟩
      · exact ⟨1, .program, rfl, slotLaunch_program himage hsuits hblank⟩
      · exact ⟨2, .retire, rfl, slotLaunch_retire hslot hwritten⟩
    have hpasses := accessPasses_open hopen ingress (.execute operation st.target)
    refine ⟨fun hidle => ?_, fun other start since continued hrun hne => ?_⟩
    · have hchecks := hlaunch.launchChecks (ingress := ingress) hst (fun r hr => by rw [hidle] at hr; cases hr) (by rw [hidle]; rfl) hprotect
      have hstarted := exec_launch hc hs hpasses hflagged hchecks
      rw [launch_idle hidle, startAtLaunch, SlotWork.segment, hlaunch.target] at hstarted
      exact hstarted
    · have hchecks := hlaunch.launchChecks (ingress := ingress) hst (fun r hr => by rw [hrun] at hr; cases hr; rfl)
        (by rw [hrun, worksOnSlot_slot, decide_eq_false hne]) hprotect
      have hwaits := exec_launch hc hs hpasses hflagged hchecks
      rw [launch_behind hrun] at hwaits
      exact hwaits
  · have hearly {operation : Byte} {o : Operation} {w : Work} (ho : operationOf operation = some o)
        (hmaint : o = .wipe → s.straps.maint = some ingress) (hw : workOf o st = some w) :
        EarlyChecks s ingress operation st.target st o w := ⟨ho, rfl, hmaint, by rw [hidle]; rfl, hw⟩
    refine ⟨fun g hopen hg hprotect => ?_, fun hopen hboundary => ?_, fun hmaint => ?_, fun hallowed => ?_⟩
    · have hstarted := exec_launch (c := .eraseSegment ingress source st.target) (operation := 3) rfl hs (accessPasses_open hopen ..) hflagged
        (launchChecks_ok hst (hearly (o := .eraseSegment) (w := .eraseSegment g) rfl (fun e => by cases e)
          (by rw [workOf, segmentOf_some hg]; rfl)) rfl rfl (by rw [protectionPasses, hprotect]; rfl))
      rw [launch_idle hidle] at hstarted
      exact hstarted
    · have hstarted := exec_launch (c := .eraseAll ingress source st.target) (operation := 4) rfl hs (accessPasses_open hopen ..) hflagged
        (launchChecks_ok hst (hearly (o := .eraseAll) rfl (fun e => by cases e) rfl) rfl rfl (by rw [protectionPasses, hboundary]; rfl))
      rw [launch_idle hidle] at hstarted
      exact hstarted
    · have hstarted := exec_launch (c := .wipe ingress source st.target) (operation := 5) rfl hs
        (accessPasses_execute (.inl rfl) (.inr hmaint)) hflagged
        (launchChecks_ok hst (hearly (o := .wipe) rfl (fun _ => hmaint) rfl) rfl rfl rfl)
      rw [launch_idle hidle] at hstarted
      exact hstarted
    · have hstarted := exec_launch (c := .blankCheck ingress source st.target) (operation := 6) rfl hs
        (accessPasses_execute (.inr rfl) hallowed) hflagged
        (launchChecks_ok hst (hearly (o := .blankCheck) rfl (fun e => by cases e) rfl) rfl rfl rfl)
      rw [launch_idle hidle] at hstarted
      exact hstarted

/-! ## Refusals (R123 to R127, R129) -/

/-- A refused EXECUTE sets the flag of its error and discards the staged record (R123, R129). -/
theorem exec_refused {c : Instr} {s : State} {ingress : Port} {source operation echo : Byte} (e : StoreError)
    (hc : commandOf c = some (ingress, source, .execute operation echo)) (hs : Ready s) (hopen : s.mgmt.level = .open)
    (hflagged : s.ctrl.flagged = false) (h : launchChecks ingress operation echo s = .error e) :
    exec c s = storeReplied ingress source 0x11 e.result { s with ctrl := { s.ctrl.flag e with staged := none } } :=
  exec_execute hc hs (accessPasses_open hopen ..) (executeStore_error hflagged h)

theorem operationOf_none {operation : Byte} (h : operation = 0 ∨ 6 < operation.toNat) : operationOf operation = none := by
  rcases h with rfl | h
  · rfl
  · unfold operationOf
    split
    any_goals omega
    rfl

/-- Only bytes 1 and 2 name a PROGRAM or RETIRE (11.2). -/
theorem not_slotWork_of_lt {operation : Byte} {o : Operation} (ho : operationOf operation = some o) (h : 2 < operation.toNat) :
    o.isSlotWork = false := by
  unfold operationOf at ho
  split at ho <;> cases ho
  any_goals omega
  all_goals rfl

theorem boundaryProtects_iff (boundary : Option Segment) (g : Segment) :
    boundaryProtects boundary g = true ↔ ∃ b, boundary = some b ∧ b ≤ g := by
  cases boundary <;> simp [boundaryProtects]

section
variable {s : State} {ingress : Port} {operation echo : Byte} {st : Staged} {o : Operation} {w : Work}

theorem launchChecks_format (hst : s.ctrl.staged = some st) (h : EarlyChecks s ingress operation echo st o w)
    (hformat : formatPasses w = false) : launchChecks ingress operation echo s = .error .format := by
  rw [launchChecks_late hst h, if_pos hformat]

theorem launchChecks_slotState (hst : s.ctrl.staged = some st) (h : EarlyChecks s ingress operation echo st o w)
    (hformat : formatPasses w = true) (hslot : slotStatePasses s w = false) : launchChecks ingress operation echo s = .error .access := by
  rw [launchChecks_late hst h, if_neg (by rw [hformat]; exact Bool.noConfusion), if_pos hslot]

theorem launchChecks_protect (hst : s.ctrl.staged = some st) (h : EarlyChecks s ingress operation echo st o w)
    (hformat : formatPasses w = true) (hslot : slotStatePasses s w = true) (hprotect : protectionPasses s.ctrl.boundary w = false) :
    launchChecks ingress operation echo s = .error .protect := by
  rw [launchChecks_late hst h, if_neg (by rw [hformat]; exact Bool.noConfusion), if_neg (by rw [hslot]; exact Bool.noConfusion),
    if_pos hprotect]

end

/-- A PROGRAM or RETIRE of the staged record, past checks 1 to 6 (R123, R124). -/
theorem earlyChecks_slotWork {s : State} {ingress : Port} {operation echo : Byte} {st : Staged} {o : Operation} {w : Work}
    (ho : operationOf operation = some o) (hkind : o.isSlotWork = true) (hecho : echo = st.target) (hw : workOf o st = some w)
    (hbehind : ∀ r, s.ctrl.running = some r → r.work.isSlotWork = true) : EarlyChecks s ingress operation echo st o w := by
  refine ⟨ho, hecho, fun e => ?_, ?_, hw⟩
  · rw [e] at hkind
    cases hkind
  · unfold mayLaunchBehind
    cases hrun : s.ctrl.running with
    | none => rfl
    | some r => exact Bool.and_eq_true_iff.2 ⟨hkind, hbehind r hrun⟩

/-- The slot of the running PROGRAM or RETIRE (R124). -/
theorem worksOnSlot_iff (slot : Byte) (c : StoreController) :
    worksOnSlot slot c.running = true ↔ ∃ w, c.runningSlotWork = some w ∧ w.target = slot := by
  unfold worksOnSlot StoreController.runningSlotWork
  cases c.running with
  | none => simp
  | some r =>
    obtain ⟨work, start, since, continued⟩ := r
    cases work <;> simp

/-- Settles O43: the first of the nine checks that fails, case by case. -/
theorem executeRefusedByFirstFailingCheck : Obligations.ExecuteRefusedByFirstFailingCheck := by
  refine ⟨imageSuits_iff, boundaryProtects_iff, fun s ingress source operation echo c hs hopen hc => ?_⟩
  have hrefused (e : StoreError) (hflagged : s.ctrl.flagged = false) (h : launchChecks ingress operation echo s = .error e) :=
    exec_refused e hc hs hopen hflagged h
  refine ⟨fun hflagged => exec_execute hc hs (accessPasses_open hopen ..) (executeStore_flagged hflagged),
    fun hflagged hst => hrefused .access hflagged (launchChecks_unstaged hst), fun st hflagged hst => ?_⟩
  refine ⟨fun h => ?unnamed, fun h => ?echo, fun hop hmaint => ?maint, fun r hrun h => ?behind, fun hop himage => ?image,
    fun hop htarget => ?segment, fun hone htwo hecho hbehind => ?slotWork, fun hidle hecho h => ?erase⟩
  case unnamed =>
    refine hrefused .access hflagged (launchChecks_early hst fun o w he => ?_)
    have ho := he.operation
    rw [operationOf_none h] at ho
    cases ho
  case echo => exact hrefused .access hflagged (launchChecks_early hst fun o w he => h he.echo)
  case maint =>
    refine hrefused .access hflagged (launchChecks_early hst fun o w he => hmaint (he.maint ?_))
    have ho := he.operation
    rw [hop] at ho
    exact (Option.some.inj ho).symm
  case behind =>
    refine hrefused .access hflagged (launchChecks_early hst fun o w he => ?_)
    have hbehind := he.behind
    rw [hrun, mayLaunchBehind, Bool.and_eq_true] at hbehind
    rcases h with h | h
    · rw [h] at hbehind
      cases hbehind.2
    · rw [not_slotWork_of_lt he.operation h] at hbehind
      cases hbehind.1
  case image =>
    refine hrefused .access hflagged (launchChecks_early hst fun o w he => ?_)
    have ho := he.operation
    have hw := he.work
    rw [hop] at ho
    rw [← Option.some.inj ho, workOf, himage] at hw
    cases hw
  case segment =>
    refine hrefused .access hflagged (launchChecks_early hst fun o w he => ?_)
    have ho := he.operation
    have hw := he.work
    rw [hop] at ho
    rw [← Option.some.inj ho, workOf, segmentOf_none htarget] at hw
    cases hw
  case slotWork =>
    have hprogram {image : Image} (hop : operation = 1) (himage : st.image = some image) :
        EarlyChecks s ingress operation echo st .program (.slot (.program st.target image)) :=
      earlyChecks_slotWork (by rw [hop]; rfl) rfl hecho (by rw [workOf, himage]; rfl) hbehind
    have hretire (hop : operation = 2) : EarlyChecks s ingress operation echo st .retire (.slot (.retire st.target)) :=
      earlyChecks_slotWork (by rw [hop]; rfl) rfl hecho rfl hbehind
    refine ⟨fun image hop himage hunsuited => ?_, fun hop htarget => ?_, fun image hop himage hsuits hread => ?_,
      fun hop htarget hread => ?_, fun w hrun hsame h => ?_, fun hother hprotect h => ?_⟩
    · exact hrefused .format hflagged (launchChecks_format hst (hprogram hop himage) hunsuited)
    · exact hrefused .format hflagged (launchChecks_format hst (hretire hop) (decide_eq_false (not_lt.2 htarget)))
    · refine hrefused .access hflagged (launchChecks_slotState hst (hprogram hop himage) hsuits (Bool.eq_false_iff.2 fun h => ?_))
      exact hread ((slotStatePasses_iff s _).1 h).1
    · refine hrefused .access hflagged
        (launchChecks_slotState hst (hretire hop) (decide_eq_true htarget) (Bool.eq_false_iff.2 fun h => ?_))
      obtain ⟨image, himage⟩ := ((slotStatePasses_iff s _).1 h).1
      exact hread image himage
    · have hworks : worksOnSlot st.target s.ctrl.running = true := (worksOnSlot_iff _ _).2 ⟨w, hrun, hsame⟩
      have hbusy {v : SlotWork} (hv : v.target = st.target) : slotStatePasses s (.slot v) = false := by
        refine Bool.eq_false_iff.2 fun h => ?_
        have hidle := ((slotStatePasses_iff s v).1 h).2
        rw [hv, hworks] at hidle
        cases hidle
      rcases h with ⟨hop, htarget⟩ | ⟨hop, image, himage, hsuits⟩
      · exact hrefused .access hflagged (launchChecks_slotState hst (hretire hop) (decide_eq_true htarget) (hbusy rfl))
      · exact hrefused .access hflagged (launchChecks_slotState hst (hprogram hop himage) hsuits (hbusy rfl))
    · have hworks : worksOnSlot st.target s.ctrl.running = false := by
        rw [Bool.eq_false_iff, ne_eq, worksOnSlot_iff]
        rintro ⟨v, hv, htarget⟩
        rcases hother with hidle | ⟨w, hw, hne⟩
        · rw [runningSlotWork_none hidle] at hv
          cases hv
        · rw [hw] at hv
          exact hne (Option.some.inj hv ▸ htarget)
      have hprotected {v : SlotWork} (hv : v.target = st.target) : protectionPasses s.ctrl.boundary (.slot v) = false := by
        rw [protectionPasses, SlotWork.segment, hv, hprotect]
        rfl
      rcases h with ⟨hop, htarget, hread⟩ | ⟨hop, hread, image, himage, hsuits⟩
      · exact hrefused .protect hflagged (launchChecks_protect hst (hretire hop) (decide_eq_true htarget)
          ((slotStatePasses_iff s _).2 ⟨hread, hworks⟩) (hprotected rfl))
      · exact hrefused .protect hflagged (launchChecks_protect hst (hprogram hop himage) hsuits
          ((slotStatePasses_iff s _).2 ⟨hread, hworks⟩) (hprotected rfl))
  case erase =>
    rcases h with ⟨hop, g, hg, hprotect⟩ | ⟨hop, hboundary⟩
    · have hearly : EarlyChecks s ingress operation echo st .eraseSegment (.eraseSegment g) :=
        ⟨by rw [hop]; rfl, hecho, fun e => (by cases e), by rw [hidle]; rfl, by rw [workOf, segmentOf_some hg]; rfl⟩
      exact hrefused .protect hflagged (launchChecks_protect hst hearly rfl rfl (by rw [protectionPasses, hprotect]; rfl))
    · have hearly : EarlyChecks s ingress operation echo st .eraseAll (.eraseAll st.target 0) :=
        ⟨by rw [hop]; rfl, hecho, fun e => (by cases e), by rw [hidle]; rfl, rfl⟩
      refine hrefused .protect hflagged (launchChecks_protect hst hearly rfl rfl ?_)
      rw [protectionPasses, Option.isNone_eq_false_iff, Option.isSome_iff_ne_none]
      exact hboundary

end Sys2Proof.Machine
end

section
/-! SUPPORT. A command telegram and its row (R105, R106, R152, R162). -/

namespace Sys2Proof.Machine

theorem readCommand_image (target : Byte) (image : Image) : readCommand 0x10 (target :: image.toList) = .stage target (some image) := by
  cases himage : image.toList with
  | nil =>
    have hlength := congrArg List.length himage
    rw [Vector.length_toList] at hlength
    cases hlength
  | cons b rest => rw [readCommand_stage, ← himage, vectorOf_toList]

/-- The layout of 11.2 is read back as the command it spells: no bit is dropped (R162). -/
theorem decodePayload_payloadOf {c : Instr} {ingress : Port} {source : Byte} {m : MgmtCommand} {payload : List Byte}
    (hc : commandOf c = some (ingress, source, m)) (h : payloadOf c = some payload) : decodePayload payload = m := by
  cases c with
  | stage p src target image =>
    cases hc
    cases image with
    | none => cases h; rfl
    | some image => cases h; exact readCommand_image target image
  | unlock p src code =>
    cases hc
    cases h
    exact (readCommand_unlock code.toList).trans (by rw [vectorOf_toList])
  | status | readEntry | readPortCounters | clearCounters | program | retire | eraseSegment | eraseAll | wipe | blankCheck | abortStage
  | clearStoreFlags | raiseProtection | restore | disable | enable | sendBreak | restart | unknownCommand | executeUnknownOperation
  | portControlUnknownAction => cases hc; cases h; rfl
  | _ => cases hc

/-- The buffer at the head of the Classification Queue classified (R103). -/
theorem exec_classification {s : State} {i : Fin Config.poolSize} {rest : List (Fin Config.poolSize)} {ingress : Port}
    (hs : s.phase = .started) (hqueue : s.classQueue = i :: rest) (hclaim : (s.buffer i).claim = .waiting ingress) :
    exec .classification s = .next (classifyBuffer i ingress { s with classQueue := rest }) := by
  refine (whenStarted_started (f := classify) hs).trans ?_
  rw [classify, hqueue]
  dsimp only
  rw [hclaim]

/-- Settles O37: the classification of a command telegram hands over the command that its payload spells. -/
theorem commandTelegramActsAsItsRow : Obligations.CommandTelegramActsAsItsRow := by
  intro c s ingress m i rest t _ hc hs hqueue hbuffer hcls hdestination hwhole hpayload
  have hcommand : isCommand { s with classQueue := rest } t = true := by simp [isCommand, hcls, hdestination]
  have htelegram : (State.buffer { s with classQueue := rest } i).telegram = t := congrArg Buffer.telegram hbuffer
  have htaken : t.payload.take t.length = t.payload := List.take_of_length_le hwhole.le
  have hfreed : (State.freeBuffer { s with classQueue := rest } i).phase = .started := hs
  rw [exec_classification hs hqueue (congrArg Buffer.claim hbuffer), exec_of_commandOf hc, whenStarted_started hfreed, classifyBuffer,
    htelegram, if_pos hcommand, htaken, decodePayload_payloadOf hc hpayload]

/-! ## Keys (R95) -/

theorem accepts_iff (m : AddressMatch) (address : Byte) :
    m.accepts address = true ↔ ∀ k, k < 8 → m.mask.getLsbD k = true → address.getLsbD k = m.value.getLsbD k := by
  rw [AddressMatch.accepts, decide_eq_true_iff]
  constructor
  · intro h k _ hmask
    have hbit := congrArg (fun b : Byte => b.getLsbD k) h
    simpa [hmask] using hbit
  · intro h
    refine BitVec.eq_of_getLsbD_eq fun k hk => ?_
    rw [BitVec.getLsbD_and, BitVec.getLsbD_and]
    cases hmask : m.mask.getLsbD k with
    | false => simp
    | true => rw [h k hk hmask]

/-- Settles O31: an address passes a mask bit by bit. -/
theorem keyMatchesUnderMasks : Obligations.KeyMatchesUnderMasks := by
  intro e ingress t
  rw [RouteEntry.matches, Bool.and_eq_true, Bool.and_eq_true, Bool.and_eq_true, accepts_iff, accepts_iff, and_assoc, and_assoc]
  refine and_congr_right' (and_congr_right' (and_congr_right' ?_))
  cases e.cls with
  | none => exact iff_of_true rfl (.inl rfl)
  | some c =>
    rw [decide_eq_true_iff]
    exact ⟨fun h => .inr (congrArg some h.symm), fun h => (h.resolve_left (Option.some_ne_none c) |> Option.some.inj).symm⟩

/-! ## The scan (R96, R108) -/

theorem segmentOfSlot_val (slot : Byte) : (segmentOfSlot slot).val = slot.toNat / 16 := rfl

theorem routeSlot_toNat (i : Fin 240) : (routeSlot i).toNat = i.val := by
  have hlt := i.isLt
  rw [routeSlot, BitVec.toNat_ofNat]
  exact Nat.mod_eq_of_lt (by omega)

theorem segmentOfSlot_eq_iff (slot : Byte) (g : Segment) : segmentOfSlot slot = g ↔ slot.toNat / 16 = g.val := by
  rw [Fin.ext_iff, segmentOfSlot_val]

/-- The segments that a running and a waiting operation hold busy (R128). -/
theorem busy_iff (s : State) (g : Segment) : s.ctrl.busy g = true ↔
    (∃ r, s.ctrl.running = some r ∧ match r.work with
      | .slot (.program slot _) => slot.toNat / 16 = g.val
      | .slot (.retire slot) => slot.toNat / 16 = g.val
      | .eraseSegment h => h = g
      | .eraseAll _ current => current = g
      | .wipe _ current => current = g
      | .blankCheck _ => False)
    ∨ ∃ w, s.ctrl.waiting = some w ∧ match w with
      | .program slot _ => slot.toNat / 16 = g.val
      | .retire slot => slot.toNat / 16 = g.val := by
  rw [StoreController.busy, Bool.or_eq_true]
  refine or_congr ?_ ?_
  · match s.ctrl.running with
    | none => simp
    | some ⟨.slot (.program slot image), start, since, continued⟩ =>
      simp [Work.segment, SlotWork.segment, SlotWork.target, segmentOfSlot_eq_iff]
    | some ⟨.slot (.retire slot), start, since, continued⟩ =>
      simp [Work.segment, SlotWork.segment, SlotWork.target, segmentOfSlot_eq_iff]
    | some ⟨.eraseSegment h, start, since, continued⟩ => simp [Work.segment]
    | some ⟨.eraseAll x h, start, since, continued⟩ => simp [Work.segment]
    | some ⟨.wipe x h, start, since, continued⟩ => simp [Work.segment]
    | some ⟨.blankCheck x, start, since, continued⟩ => simp [Work.segment]
  · match s.ctrl.waiting with
    | none => simp
    | some (.program slot image) => simp [SlotWork.segment, SlotWork.target, segmentOfSlot_eq_iff]
    | some (.retire slot) => simp [SlotWork.segment, SlotWork.target, segmentOfSlot_eq_iff]

section
variable {s : State} {ingress : Port} {t : Telegram}

/-- A slot as the scan takes it: one of a busy segment decides nothing (R96). -/
def scanVerdict (s : State) (ingress : Port) (t : Telegram) (i : Fin 240) : Option Decision :=
  if s.ctrl.busy (segmentOfSlot (routeSlot i)) then none else slotVerdict s ingress t i

/-- The scan finds the first slot that decides, or notes whether any was busy (R96). -/
theorem scanSlots_eq (l : List (Fin 240)) (noted : Bool) : scanSlots s ingress t noted l =
    match l.findSome? (scanVerdict s ingress t) with
    | some d => .decided d
    | none => .undecided (noted || l.any fun i => s.ctrl.busy (segmentOfSlot (routeSlot i))) := by
  induction l generalizing noted with
  | nil => simp [scanSlots]
  | cons i rest ih =>
    rw [scanSlots, List.findSome?_cons, List.any_cons]
    cases hbusy : s.ctrl.busy (segmentOfSlot (routeSlot i)) with
    | true =>
      have hnone : scanVerdict s ingress t i = none := if_pos hbusy
      rw [if_pos rfl, ih, hnone, Bool.true_or, Bool.or_true]
    | false =>
      have hsame : scanVerdict s ingress t i = slotVerdict s ingress t i := if_neg (Bool.eq_false_iff.1 hbusy)
      rw [if_neg Bool.false_ne_true, ih, hsame, Bool.false_or]
      cases slotVerdict s ingress t i <;> rfl

theorem scanVerdict_eq_some (i : Fin 240) (d : Decision) : scanVerdict s ingress t i = some d ↔
    ¬ s.ctrl.busy (segmentOfSlot (routeSlot i)) = true ∧ slotVerdict s ingress t i = some d := by
  unfold scanVerdict
  split <;> simp_all

theorem scanVerdict_eq_none (i : Fin 240) : scanVerdict s ingress t i = none ↔
    (¬ s.ctrl.busy (segmentOfSlot (routeSlot i)) = true → slotVerdict s ingress t i = none) := by
  unfold scanVerdict
  split <;> simp_all

theorem mem_before_iff {n : Nat} {before after : List (Fin n)} {i : Fin n} (h : List.finRange n = before ++ i :: after) (j : Fin n) :
    j ∈ before ↔ j < i := by
  have hsorted : (before ++ i :: after).Pairwise (· < ·) := h ▸ List.pairwise_lt_finRange n
  obtain ⟨-, hafter, hbefore⟩ := List.pairwise_append.1 hsorted
  refine ⟨fun hj => hbefore j hj i List.mem_cons_self, fun hlt => ?_⟩
  have hj : j ∈ before ++ i :: after := h ▸ List.mem_finRange j
  rcases List.mem_append.1 hj with hmem | hmem
  · exact hmem
  · rcases List.mem_cons.1 hmem with rfl | hmem
    · exact absurd hlt (lt_irrefl _)
    · exact absurd hlt (lt_asymm ((List.pairwise_cons.1 hafter).1 j hmem))

theorem scanTable_decided_iff (d : Decision) : scanTable s ingress t = .decided d ↔
    ∃ i, ¬ s.ctrl.busy (segmentOfSlot (routeSlot i)) = true ∧ slotVerdict s ingress t i = some d
      ∧ ∀ j, j < i → ¬ s.ctrl.busy (segmentOfSlot (routeSlot j)) = true → slotVerdict s ingress t j = none := by
  have hfound : scanTable s ingress t = .decided d ↔ (List.finRange 240).findSome? (scanVerdict s ingress t) = some d := by
    rw [scanTable, scanSlots_eq]
    cases (List.finRange 240).findSome? (scanVerdict s ingress t) <;> simp
  rw [hfound, List.findSome?_eq_some_iff]
  constructor
  · rintro ⟨before, i, after, hsplit, hi, hnone⟩
    obtain ⟨hidle, hverdict⟩ := (scanVerdict_eq_some i d).1 hi
    exact ⟨i, hidle, hverdict, fun j hj => (scanVerdict_eq_none j).1 (hnone j ((mem_before_iff hsplit j).2 hj))⟩
  · rintro ⟨i, hidle, hverdict, hnone⟩
    obtain ⟨before, after, hsplit⟩ := List.append_of_mem (List.mem_finRange i)
    exact ⟨before, i, after, hsplit, (scanVerdict_eq_some i d).2 ⟨hidle, hverdict⟩,
      fun j hj => (scanVerdict_eq_none j).2 (hnone j ((mem_before_iff hsplit j).1 hj))⟩

theorem scanTable_undecided_iff (noted : Bool) : scanTable s ingress t = .undecided noted ↔
    (∀ i, ¬ s.ctrl.busy (segmentOfSlot (routeSlot i)) = true → slotVerdict s ingress t i = none)
      ∧ (noted = true ↔ ∃ i, s.ctrl.busy (segmentOfSlot (routeSlot i)) = true) := by
  have hfound : scanTable s ingress t = .undecided noted ↔ (List.finRange 240).findSome? (scanVerdict s ingress t) = none
      ∧ ((List.finRange 240).any fun i => s.ctrl.busy (segmentOfSlot (routeSlot i))) = noted := by
    rw [scanTable, scanSlots_eq]
    cases (List.finRange 240).findSome? (scanVerdict s ingress t) <;> simp
  rw [hfound, List.findSome?_eq_none_iff, Bool.eq_iff_iff, List.any_eq_true]
  refine and_congr ⟨fun h i => (scanVerdict_eq_none i).1 (h i (List.mem_finRange i)), fun h i _ => (scanVerdict_eq_none i).2 (h i)⟩ ?_
  have hany : (∃ i ∈ List.finRange 240, s.ctrl.busy (segmentOfSlot (routeSlot i)) = true)
      ↔ ∃ i, s.ctrl.busy (segmentOfSlot (routeSlot i)) = true :=
    ⟨fun ⟨i, _, h⟩ => ⟨i, h⟩, fun ⟨i, h⟩ => ⟨i, List.mem_finRange i, h⟩⟩
  rw [hany]
  exact Iff.comm

/-- The verdict of an entry whose key is matched (R108, R113). -/
theorem entryVerdict_iff (i : Fin 240) (e : RouteEntry) (default : PortSet) (d : Decision) : entryVerdict i e default t = some d ↔
    (e.test = none ∧ d = ⟨e.forward, e.rewrite, none, some i⟩)
      ∨ ∃ f, e.test = some f
        ∧ ((f.holds t = true ∧ d = ⟨e.forward, e.rewrite, e.adjust.map fun a => (f, a), some i⟩)
          ∨ (f.holds t = false ∧ f.falseAction = .drop ∧ d = ⟨PortSet.empty, none, none, some i⟩)
          ∨ (f.holds t = false ∧ f.falseAction = .default ∧ d = ⟨default, none, none, some i⟩)) := by
  unfold entryVerdict
  cases htest : e.test with
  | none => simp [trueAction, htest, eq_comm (a := d)]
  | some f =>
    cases hholds : f.holds t with
    | true => cases hadjust : e.adjust <;> simp [trueAction, htest, hholds, hadjust, eq_comm (a := d)]
    | false => cases haction : f.falseAction <;> simp [hholds, haction, eq_comm (a := d)]

theorem slotVerdict_iff (i : Fin 240) (d : Decision) : slotVerdict s ingress t i = some d ↔
    ∃ image e, s.readSlot (routeSlot i) = .written image ∧ decodeRoute image = some e ∧ e.matches ingress t = true
      ∧ entryVerdict i e (s.port ingress).profile.defaultAction t = some d := by
  unfold slotVerdict
  cases hread : s.readSlot (routeSlot i) with
  | written image =>
    cases hdecode : decodeRoute image with
    | none => simp [hdecode]
    | some e => cases hmatches : e.matches ingress t <;> simp [hdecode, hmatches]
  | blank | retired _ | torn => simp

end

theorem readSlot_eq (s : State) (slot : Byte) (g : Segment) (h : g.val = slot.toNat / 16) :
    s.readSlot slot = if s.ctrl.quarantined[g] = true then .torn else s.store.slots[slot.toNat] := by
  obtain rfl : segmentOfSlot slot = g := (segmentOfSlot_eq_iff slot g).2 h.symm
  rfl

/-- Settles O32: the scan is a search for the first slot that decides. -/
theorem scanStopsAtFirstDeciding : Obligations.ScanStopsAtFirstDeciding := by
  refine ⟨segmentOfSlot_val, routeSlot_toNat, busy_iff, readSlot_eq, fun s ingress t =>
    ⟨scanTable_decided_iff, scanTable_undecided_iff, fun i d => (slotVerdict_iff i d).trans ?_⟩⟩
  simp only [entryVerdict_iff]

/-! ## Field tests (R109 to R111) -/

theorem value_short {f : FieldTest} {t : Telegram} (h : t.length < f.offset + f.width.bytes) : f.value t = none := if_pos h

/-- What a field's bytes come to, the first `m` and the second `n`, by width and sign (R109). -/
def FieldTest.valueOf (f : FieldTest) (m n : Nat) : Int :=
  match f.width with
  | .byte => if f.signed = true ∧ 127 < m then (m : Int) - 256 else m
  | .word => if f.signed = true ∧ 127 < m then 256 * (m : Int) + n - 65536 else 256 * (m : Int) + n

/-- The value of a field that lies in the payload (R109). -/
theorem value_eq {f : FieldTest} {t : Telegram} (h : f.offset + f.width.bytes ≤ t.length) :
    f.value t = some (f.valueOf (t.payload.getD f.offset 0).toNat (t.payload.getD (f.offset + 1) 0).toNat) := by
  rw [FieldTest.value, if_neg (not_lt.2 h), FieldTest.valueOf]
  generalize t.payload.getD f.offset 0 = m
  generalize t.payload.getD (f.offset + 1) 0 = n
  cases f.width <;> cases f.signed <;> refine congrArg some ?_
  · rfl
  · simp only [true_and]
    split <;> split <;> omega
  · simp [word]
  · simp only [signedWord, word, true_and]
    split <;> split <;> omega

theorem meets_iff (c : Condition) (d : Int) (band : Nat) : c.meets (indicators d band) = true ↔
    (c.lt = true ∧ d < 0) ∨ (c.eq = true ∧ d = 0) ∨ (c.gt = true ∧ 0 < d)
      ∨ (c.beyond = true ∧ ((band : Int) < d ∨ (band : Int) < -d)) := by
  have hbeyond : band < d.natAbs ↔ (band : Int) < d ∨ (band : Int) < -d := by omega
  simp [Condition.meets, indicators, hbeyond, or_assoc]

/-- Settles O33: the field's bytes by width and sign, and the indicators of the difference. -/
theorem fieldTestIsExact : Obligations.FieldTestIsExact := by
  intro f t
  refine ⟨fun h => ⟨value_short h, by rw [FieldTest.holds, value_short h]⟩, fun h => ?_⟩
  have hvalue := value_eq h
  refine ⟨_, hvalue, fun hbyte => ?_, fun hword => ?_, ?_⟩
  · rw [FieldTest.valueOf, hbyte]
    norm_cast
  · rw [FieldTest.valueOf, hword]
    norm_cast
  · rw [FieldTest.holds, hvalue]
    dsimp only
    rw [meets_iff, sub_neg, sub_eq_zero, sub_pos, neg_sub]

/-! ## Adjustments (R116, R117) -/

theorem fieldRange_width (width : Width) (signed : Bool) :
    (fieldRange width signed).1 ≤ (fieldRange width signed).2 ∧ (fieldRange width signed).2 - (fieldRange width signed).1 < width.modulus := by
  cases width <;> cases signed <;> decide

/-- Two values of a field that differ by a multiple of its modulus are the same (R117). -/
theorem eq_of_congr_inRange {width : Width} {signed : Bool} {v w k : Int} (hv : (fieldRange width signed).1 ≤ v)
    (hv' : v ≤ (fieldRange width signed).2) (hw : (fieldRange width signed).1 ≤ w) (hw' : w ≤ (fieldRange width signed).2)
    (h : w = v + k * width.modulus) : w = v := by
  have hwidth := (fieldRange_width width signed).2
  have hk : k = 0 := by
    cases width <;> simp only [Width.modulus] at h hwidth <;> omega
  rw [h, hk, zero_mul, add_zero]

theorem getD_set_same {l : List Byte} {k : Nat} (h : k < l.length) (b : Byte) : (l.set k b).getD k 0 = b := by
  rw [List.getD_eq_getElem _ _ (by rwa [List.length_set]), List.getElem_set_self]

theorem getD_set_ne {l : List Byte} {j k : Nat} (h : j ≠ k) (b : Byte) : (l.set j b).getD k 0 = l.getD k 0 := by
  rw [List.getD_eq_getElem?_getD, List.getElem?_set_ne h, List.getD_eq_getElem?_getD]

theorem write_header (f : FieldTest) (v : Int) (t : Telegram) :
    (f.write v t).destination = t.destination ∧ (f.write v t).source = t.source ∧ (f.write v t).control = t.control := by
  unfold FieldTest.write
  cases f.width <;> exact ⟨rfl, rfl, rfl⟩

/-- No byte outside the field changes (R116). -/
theorem write_outside (f : FieldTest) (v : Int) (t : Telegram) {k : Nat} (h : k < f.offset ∨ f.offset + f.width.bytes ≤ k) :
    (f.write v t).payload[k]? = t.payload[k]? := by
  unfold FieldTest.write
  cases hwidth : f.width <;> rw [hwidth] at h <;> simp only [Width.bytes] at h
  · exact List.getElem?_set_ne (by omega)
  · dsimp only
    rw [List.getElem?_set_ne (by omega), List.getElem?_set_ne (by omega)]

/-- The bytes of a value's residue read as a value in the field's range that differs from it by a multiple of the modulus (R117). -/
theorem valueOf_residue {f : FieldTest} {v : Int} {m n : Nat} (hbyte : f.width = .byte → (m : Int) = v % 256)
    (hword : f.width = .word → 256 * (m : Int) + n = v % 65536 ∧ n < 256) :
    (fieldRange f.width f.signed).1 ≤ f.valueOf m n ∧ f.valueOf m n ≤ (fieldRange f.width f.signed).2
      ∧ ∃ k : Int, f.valueOf m n = v + k * f.width.modulus := by
  suffices hresidue : (fieldRange f.width f.signed).1 ≤ f.valueOf m n ∧ f.valueOf m n ≤ (fieldRange f.width f.signed).2
      ∧ f.valueOf m n = v + (f.valueOf m n - v) / f.width.modulus * f.width.modulus from
    ⟨hresidue.1, hresidue.2.1, _, hresidue.2.2⟩
  unfold FieldTest.valueOf fieldRange
  cases hwidth : f.width with
  | byte =>
    have hm := hbyte hwidth
    cases f.signed <;> simp only [Width.modulus, true_and, Bool.false_eq_true, false_and, if_true, if_false]
    · omega
    · split <;> omega
  | word =>
    obtain ⟨hmn, hn⟩ := hword hwidth
    cases f.signed <;> simp only [Width.modulus, true_and, Bool.false_eq_true, false_and, if_true, if_false]
    · omega
    · split <;> omega

/-- What a field reads after a value is written into it: the value, but for a multiple of the modulus, in the field's range (R116,
R117). -/
theorem value_write (f : FieldTest) (v : Int) {t : Telegram} (ht : t.Whole) (h : f.offset + f.width.bytes ≤ t.length) :
    ∃ w, f.value (f.write v t) = some w ∧ (fieldRange f.width f.signed).1 ≤ w ∧ w ≤ (fieldRange f.width f.signed).2
      ∧ ∃ k : Int, w = v + k * f.width.modulus := by
  have hcontrol := (write_header f v t).2.2
  have hlength : f.offset + f.width.bytes ≤ (f.write v t).length := by rwa [Telegram.length, hcontrol]
  rw [← ht] at h
  refine ⟨_, value_eq hlength, valueOf_residue (fun hwidth => ?_) fun hwidth => ?_⟩ <;>
    simp only [FieldTest.write, hwidth, Width.modulus, Width.bytes] at h ⊢
  · rw [getD_set_same (by omega), BitVec.toNat_ofNat]
    omega
  · rw [getD_set_ne (by omega), getD_set_same (by omega), getD_set_same (by rw [List.length_set]; omega), BitVec.toNat_ofNat, BitVec.toNat_ofNat]
    omega

theorem inFieldRange_iff (width : Width) (signed : Bool) (v : Int) :
    inFieldRange width signed v = true ↔ (fieldRange width signed).1 ≤ v ∧ v ≤ (fieldRange width signed).2 := by
  rw [inFieldRange, Bool.and_eq_true, decide_eq_true_iff, decide_eq_true_iff]

/-- What a policy makes of a sum (R116, R117). -/
theorem overflowValue_inRange {width : Width} {signed : Bool} {policy : Overflow} {r : Int} (h : inFieldRange width signed r = true) :
    overflowValue width signed policy r = some r := if_pos h

theorem overflowValue_out {width : Width} {signed : Bool} {policy : Overflow} {r : Int} (h : inFieldRange width signed r = false) :
    overflowValue width signed policy r = match policy with
      | .wrap => some (r % width.modulus)
      | .clamp => some (if r < (fieldRange width signed).1 then (fieldRange width signed).1 else (fieldRange width signed).2)
      | .drop => none := if_neg (Bool.eq_false_iff.1 h)

theorem adjustTelegram_eq {f : FieldTest} {a : Adjustment} {t : Telegram} {v : Int} (hv : f.value t = some v) :
    adjustTelegram (some (f, a)) t = (overflowValue f.width f.signed a.policy (v + a.amount)).map fun r => f.write r t := by
  unfold adjustTelegram
  dsimp only
  rw [hv]

/-- Settles O34: what `overflowValue` makes of the sum, written into the field and read back. -/
theorem adjustmentStaysInField : Obligations.AdjustmentStaysInField := by
  refine ⟨⟨rfl, rfl, rfl, rfl, rfl, rfl, rfl, rfl⟩, fun f a t v ht h hv => ?_⟩
  have hadjust := adjustTelegram_eq (a := a) hv
  dsimp only
  generalize v + a.amount = r at hadjust ⊢
  have hlimits := (fieldRange_width f.width f.signed).1
  have hin := inFieldRange_iff f.width f.signed r
  have hread (v' : Int) (hv' : overflowValue f.width f.signed a.policy r = some v') :
      ∃ w, adjustTelegram (some (f, a)) t = some (f.write v' t) ∧ f.value (f.write v' t) = some w
        ∧ (fieldRange f.width f.signed).1 ≤ w ∧ w ≤ (fieldRange f.width f.signed).2 ∧ (∃ k : Int, w = v' + k * f.width.modulus)
        ∧ ((fieldRange f.width f.signed).1 ≤ v' → v' ≤ (fieldRange f.width f.signed).2 → w = v') := by
    obtain ⟨w, hw, hlow, hhigh, k, hk⟩ := value_write f v' ht h
    exact ⟨w, by rw [hadjust, hv']; rfl, hw, hlow, hhigh, ⟨k, hk⟩, fun h1 h2 => eq_of_congr_inRange h1 h2 hlow hhigh hk⟩
  refine ⟨fun hoverflow hdrop => ?_, fun hkept => ?_⟩
  · have hout : inFieldRange f.width f.signed r = false := Bool.eq_false_iff.2 fun e => by
      obtain ⟨h1, h2⟩ := hin.1 e
      exact hoverflow.elim (not_lt.2 h1) (not_lt.2 h2)
    rw [hadjust, overflowValue_out hout, hdrop]
    rfl
  · suffices hvalue : ∃ v' w, adjustTelegram (some (f, a)) t = some (f.write v' t) ∧ f.value (f.write v' t) = some w
        ∧ ((fieldRange f.width f.signed).1 ≤ r → r ≤ (fieldRange f.width f.signed).2 → w = r)
        ∧ (a.policy = .clamp → r < (fieldRange f.width f.signed).1 → w = (fieldRange f.width f.signed).1)
        ∧ (a.policy = .clamp → (fieldRange f.width f.signed).2 < r → w = (fieldRange f.width f.signed).2)
        ∧ (a.policy = .wrap → (fieldRange f.width f.signed).1 ≤ w ∧ w ≤ (fieldRange f.width f.signed).2
          ∧ ∃ k : Int, w = r + k * f.width.modulus) by
      obtain ⟨v', w, hsome, hw, hrest⟩ := hvalue
      obtain ⟨hdestination, hsource, hcontrol⟩ := write_header f v' t
      exact ⟨_, w, hsome, hw, hdestination, hsource, hcontrol, (write_payload_length f v' t).1, fun k hk => write_outside f v' t hk, hrest⟩
    cases hrange : inFieldRange f.width f.signed r with
    | true =>
      obtain ⟨h1, h2⟩ := hin.1 hrange
      obtain ⟨w, hsome, hw, hlow, hhigh, hmod, hsame⟩ := hread r (overflowValue_inRange hrange)
      exact ⟨r, w, hsome, hw, hsame, fun _ h => absurd h (not_lt.2 h1), fun _ h => absurd h (not_lt.2 h2), fun _ => ⟨hlow, hhigh, hmod⟩⟩
    | false =>
      have hnot : ¬ ((fieldRange f.width f.signed).1 ≤ r ∧ r ≤ (fieldRange f.width f.signed).2) := fun e => by
        rw [hin.2 e] at hrange
        cases hrange
      have hvalue := overflowValue_out (policy := a.policy) hrange
      cases hpolicy : a.policy with
      | drop => exact absurd ⟨by omega, hpolicy⟩ hkept
      | wrap =>
        rw [hpolicy] at hvalue
        obtain ⟨w, hsome, hw, hlow, hhigh, ⟨k, hk⟩, -⟩ := hread _ (by rw [hpolicy]; exact hvalue)
        refine ⟨_, w, hsome, hw, fun h1 h2 => absurd ⟨h1, h2⟩ hnot, fun e => (by cases e), fun e => (by cases e),
          fun _ => ⟨hlow, hhigh, k - r / f.width.modulus, ?_⟩⟩
        rw [hk, Int.emod_def]
        ring
      | clamp =>
        rw [hpolicy] at hvalue
        obtain ⟨w, hsome, hw, hlow, hhigh, -, hsame⟩ := hread _ (by rw [hpolicy]; exact hvalue)
        refine ⟨_, w, hsome, hw, fun h1 h2 => absurd ⟨h1, h2⟩ hnot, fun _ hr => ?_, fun _ hr => ?_, fun e => by cases e⟩
        · rw [if_pos hr] at hsame
          exact hsame (le_refl _) hlimits
        · rw [if_neg (by omega)] at hsame
          exact hsame hlimits (le_refl _)

end Sys2Proof.Machine
end

section
/-! SUPPORT. Classification of ordinary telegrams: what is dropped and what is forwarded (R80, R81, R98, R112, R114 to R119). -/

namespace Sys2Proof.Machine

/-! ## The decision (R98, R112) -/

theorem scanTable_classQueue (s : State) (rest : List (Fin Config.poolSize)) (ingress : Port) (t : Telegram) :
    scanTable { s with classQueue := rest } ingress t = scanTable s ingress t := by
  rw [scanTable, scanTable, scanSlots_eq, scanSlots_eq]
  rfl

/-- The state in which a decision is applied: the buffer out of the Classification Queue, BUSY_SKIPS counted where the scan noted a busy
segment (R98). -/
def decidedState (s : State) (rest : List (Fin Config.poolSize)) (ingress : Port) (noted : Bool) : State :=
  if noted then State.count { s with classQueue := rest } ingress .busySkips else { s with classQueue := rest }

/-- An ordinary telegram classified by its decision (R108, R112). -/
theorem exec_classification_ordinary {s : State} {i : Fin Config.poolSize} {rest : List (Fin Config.poolSize)} {ingress : Port} {d : Decision}
    {noted : Bool} (hs : s.phase = .started) (hqueue : s.classQueue = i :: rest) (hclaim : (s.buffer i).claim = .waiting ingress)
    (hordinary : isCommand s (s.buffer i).telegram = false)
    (hscan : (scanTable s ingress (s.buffer i).telegram = .decided d ∧ noted = false)
      ∨ (scanTable s ingress (s.buffer i).telegram = .undecided noted
        ∧ d = ⟨(s.port ingress).profile.defaultAction, none, none, none⟩)) :
    exec .classification s
      = .next (applyDecision i ingress (s.buffer i).telegram d (decidedState s rest ingress noted)) := by
  have hnot : ¬ isCommand { s with classQueue := rest } (s.buffer i).telegram = true := Bool.eq_false_iff.1 hordinary
  rw [exec_classification hs hqueue hclaim, classifyBuffer]
  refine congrArg _ ((if_neg hnot).trans ?_)
  show routeTelegram i ingress (s.buffer i).telegram { s with classQueue := rest } = _
  rw [routeTelegram, scanTable_classQueue]
  rcases hscan with ⟨hscan, hnoted⟩ | ⟨hscan, rfl⟩
  · rw [hscan, hnoted]
    rfl
  · rw [hscan]
    cases noted <;> rfl

theorem without_isEmpty_iff (set : PortSet) (ingress : Port) : (PortSet.without set ingress).isEmpty = true ↔
    ∀ q, set.get q = true → q = ingress := by
  obtain ⟨a, b, c⟩ := set
  have hports (P : Port → Prop) : (∀ q, P q) ↔ P .a ∧ P .b ∧ P .c :=
    ⟨fun h => ⟨h .a, h .b, h .c⟩, fun ⟨ha, hb, hc⟩ q => by cases q; exacts [ha, hb, hc]⟩
  rw [hports]
  cases ingress <;> simp [PortSet.without, PortSet.isEmpty, PerPort.set, PerPort.get]

/-- Settles O36: the buffer FREE, one count, and the hit. -/
theorem classificationDrops : Obligations.ClassificationDrops := by
  intro s i rest ingress d noted hs hqueue hclaim hordinary hscan counted hcases skipped
  have hcounted : applyDecision i ingress (s.buffer i).telegram d (decidedState s rest ingress noted)
      = ((raiseHit d.entry (decidedState s rest ingress noted)).count ingress counted).freeBuffer i := by
    unfold applyDecision
    dsimp only
    rcases hcases with ⟨rfl, hnone⟩ | ⟨rfl, ⟨q, hq, hget⟩, hdropped⟩
    · rw [if_pos ((without_isEmpty_iff _ _).2 hnone)]
    · rw [if_neg (fun h => hq ((without_isEmpty_iff _ _).1 h q hget)), hdropped]
  refine ⟨_, (exec_classification_ordinary hs hqueue hclaim hordinary hscan).trans (congrArg _ (hcounted.trans ?_)), rfl⟩
  cases noted <;> cases d.entry <;> simp [decidedState, raiseHit, State.count, State.freeBuffer, State.setBuffer, State.setPort,
    State.port, State.buffer, skipped]

/-! ## One entry placed (R38, R39, R79) -/

/-- A port that has taken an entry at the tail of its queue, with the work that gives an idle transmitter (R38, R79). -/
structure Appended (ref : BufferRef) (check : Check) (now : Nat) (x y : LinePort) : Prop where
  queue : y.queue = x.queue ++ [⟨ref, now + 192000 * x.profile.holdLimit, 0⟩]
  counters : y.counters = x.counters
  mode : y.mode = x.mode
  rx : y.rx = x.rx
  busy : x.tx ≠ .idle → y.tx = x.tx ∧ y.line = x.line ∧ y.breakPending = x.breakPending
  waits : x.tx = .idle → x.line.idle = false → y.tx = .waitGap
  begins : x.tx = .idle → x.line.idle = true → x.breakPending = false → x.queue = [] → y.tx = .arbitrating ⟨ref, 1, check, false, false⟩

theorem newEntry_eq (s : State) (p : Port) (ref : BufferRef) : newEntry s p ref = ⟨ref, s.clock + 192000 * (s.port p).profile.holdLimit, 0⟩ := rfl

theorem beginSending_counters_mode (p : Port) (s : State) :
    ((beginSending p s).port p).counters = (s.port p).counters ∧ ((beginSending p s).port p).mode = (s.port p).mode := by
  unfold beginSending
  dsimp only
  split
  · rw [State.port_setPort_same]
    exact ⟨rfl, rfl⟩
  · split
    · exact ⟨rfl, rfl⟩
    · rw [State.port_setPort_same]
      exact ⟨rfl, rfl⟩

theorem workAppears_counters_mode (p : Port) (s : State) :
    ((workAppears p s).port p).counters = (s.port p).counters ∧ ((workAppears p s).port p).mode = (s.port p).mode := by
  by_cases hidle : (s.port p).tx = .idle
  · rw [workAppears_idle hidle]
    split
    · exact beginSending_counters_mode p s
    · rw [State.port_setPort_same]
      exact ⟨rfl, rfl⟩
  · rw [workAppears_busy hidle]
    exact ⟨rfl, rfl⟩

theorem appended_appendEntry (p : Port) (ref : BufferRef) (s : State) :
    Appended ref (s.telegramOf ref).check s.clock (s.port p) ((appendEntry p ref s).port p) := by
  obtain ⟨-, -, hqueue, hrx⟩ := appendEntry_keeps p ref s
  obtain ⟨hcounters, hmode⟩ := workAppears_counters_mode p (s.setPort p { s.port p with queue := (s.port p).queue ++ [newEntry s p ref] })
  rw [State.port_setPort_same] at hcounters hmode
  refine ⟨hqueue.trans (by rw [newEntry_eq]), hcounters, hmode, hrx, fun hbusy => ?_, fun hidle hline => ?_,
    fun hidle hline hbreak hempty => ?_⟩ <;> unfold appendEntry
  · rw [workAppears_busy (by rw [State.port_setPort_same]; exact hbusy), State.port_setPort_same]
    exact ⟨rfl, rfl, rfl⟩
  · rw [workAppears_idle (by rw [State.port_setPort_same]; exact hidle), State.port_setPort_same]
    dsimp only
    rw [if_neg (Bool.eq_false_iff.1 hline), State.port_setPort_same]
  · rw [workAppears_idle (by rw [State.port_setPort_same]; exact hidle), State.port_setPort_same]
    dsimp only
    rw [if_pos hline, beginSending, State.port_setPort_same]
    dsimp only
    rw [if_neg (Bool.eq_false_iff.1 hbreak), hempty, newEntry_eq]
    dsimp only [List.nil_append]
    rw [State.port_setPort_same]
    cases ref <;> rfl

/-! ## An enqueue port by port (R80, R81) -/

/-- What the enqueue makes of one port of the set. -/
structure Decided (i : Fin Config.poolSize) (sent : Telegram) (now : Nat) (x y : LinePort) : Prop where
  refused : x.hasRoom = false → y = { x with counters := x.counters.raise (refusalCounter x) }
  taken : x.hasRoom = true → Appended (.pool i) sent.check now x y

/-- What the enqueue makes of the bridge. -/
structure Enqueued (i : Fin Config.poolSize) (sent : Telegram) (claim : Claim) (ports : List Port) (s t : State) : Prop where
  core : t = { s with ports := t.ports, pool := t.pool }
  others : ∀ j, j ≠ i → t.buffer j = s.buffer j
  buffer : t.buffer i = ⟨claim, sent⟩
  out : ∀ q, q ∉ ports → t.port q = s.port q
  decided : ∀ q ∈ ports, Decided i sent s.clock (s.port q) (t.port q)

theorem core_of_onlyLine {p : Port} {s t : State} (h : OnlyLine p s t) (hmgmt : t.mgmt = s.mgmt) :
    t = { s with ports := t.ports, pool := t.pool } := by
  obtain ⟨-, hphase, hclock, hclass, hhits, hstore, hctrl, haddress, hstraps, hrecord, hpending, -⟩ := onlyLine_iff.1 h
  cases s
  cases t
  simp_all

/-- One port decided (R80). -/
theorem enqueued_enqueueOn {i : Fin Config.poolSize} {ingress p : Port} {sent : Telegram} {refs : Nat} {s : State}
    (hbuffer : s.buffer i = ⟨.held ingress refs, sent⟩) :
    Enqueued i sent (.held ingress (if (s.port p).hasRoom then refs + 1 else refs)) [p] s (enqueueOn i s p) := by
  unfold enqueueOn
  cases hroom : (s.port p).hasRoom with
  | true =>
    rw [if_pos rfl, if_pos rfl, hbuffer]
    dsimp only
    let u : State := s.setBuffer i ⟨.held ingress (refs + 1), sent⟩
    obtain ⟨hpool, hmgmt, -, -⟩ := appendEntry_keeps p (.pool i) u
    have hline := onlyLine_appendEntry p (.pool i) u
    have happended := appended_appendEntry p (.pool i) u
    have hbuffer' : u.buffer i = ⟨.held ingress (refs + 1), sent⟩ := State.buffer_setBuffer_same ..
    refine ⟨core_of_onlyLine (s := s) (p := p) ?_ hmgmt, fun j hj => ?_, ?_, fun q hq => ?_, fun q hq => ?_⟩
    · exact (onlyLine_setBuffer p s i _).trans hline
    · rw [buffer_of_pool hpool]
      exact State.buffer_setBuffer_ne _ _ hj
    · rw [buffer_of_pool hpool, hbuffer']
    · exact appendEntry_others p (.pool i) u q (List.ne_of_not_mem_cons hq)
    · obtain rfl := List.mem_singleton.1 hq
      refine ⟨(fun h => by rw [hroom] at h; cases h), fun _ => ?_⟩
      have htelegram : u.telegramOf (.pool i) = sent := congrArg Buffer.telegram hbuffer'
      rw [htelegram] at happended
      exact happended
  | false =>
    rw [if_neg Bool.false_ne_true, if_neg Bool.false_ne_true]
    refine ⟨rfl, fun _ _ => rfl, hbuffer, fun q hq => ?_, fun q hq => ?_⟩
    · exact State.port_setPort_ne _ _ (List.ne_of_not_mem_cons hq)
    · obtain rfl := List.mem_singleton.1 hq
      exact ⟨fun _ => State.port_setPort_same .., fun h => by rw [hroom] at h; cases h⟩

theorem Enqueued.append {i : Fin Config.poolSize} {sent : Telegram} {claim claim' : Claim} {ports ports' : List Port}
    {s t u : State} (h : Enqueued i sent claim ports s t) (k : Enqueued i sent claim' ports' t u)
    (hdisjoint : ∀ q ∈ ports, q ∉ ports') : Enqueued i sent claim' (ports ++ ports') s u := by
  refine ⟨?_, fun j hj => (k.others j hj).trans (h.others j hj), k.buffer, fun q hq => ?_, fun q hq => ?_⟩
  · rw [k.core, h.core]
  · rw [List.mem_append, not_or] at hq
    exact (k.out q hq.2).trans (h.out q hq.1)
  · have hclock : t.clock = s.clock := by rw [h.core]
    rcases List.mem_append.1 hq with hmem | hmem
    · rw [k.out q (hdisjoint q hmem)]
      exact h.decided q hmem
    · have hnot : q ∉ ports := fun e => hdisjoint q e hmem
      have hdecided := k.decided q hmem
      rwa [h.out q hnot, hclock] at hdecided

/-- Every port of the set decided, each for itself (R80). -/
theorem enqueued_all {i : Fin Config.poolSize} {ingress : Port} {sent : Telegram} : ∀ (ports : List Port) {refs : Nat} {s : State},
    ports.Nodup → s.buffer i = ⟨.held ingress refs, sent⟩ →
    Enqueued i sent (.held ingress (refs + (ports.filter fun q => (s.port q).hasRoom).length)) ports s (ports.foldl (enqueueOn i) s)
  | [], _, s, _, hbuffer => ⟨rfl, fun _ _ => rfl, hbuffer, fun _ _ => rfl, fun _ h => absurd h List.not_mem_nil⟩
  | p :: rest, refs, s, hnodup, hbuffer => by
    obtain ⟨hp, hrest⟩ := List.nodup_cons.1 hnodup
    have hone := enqueued_enqueueOn (p := p) hbuffer
    have hall := hone.append (enqueued_all rest hrest hone.buffer) fun q hq => by rw [List.mem_singleton.1 hq]; exact hp
    have hfilter : (rest.filter fun q => ((enqueueOn i s p).port q).hasRoom) = rest.filter fun q => (s.port q).hasRoom := by
      refine List.filter_congr fun q hq => ?_
      rw [hone.out q (by rw [List.mem_singleton]; rintro rfl; exact hp hq)]
    rw [hfilter] at hall
    have hcount : refs + ((p :: rest).filter fun q => (s.port q).hasRoom).length
        = (if (s.port p).hasRoom then refs + 1 else refs) + (rest.filter fun q => (s.port q).hasRoom).length := by
      rw [List.filter_cons]
      split
      · rw [List.length_cons]
        omega
      · rfl
    rw [hcount]
    exact hall

/-- A buffer whose copies are all refused is FREE (R81). -/
theorem enqueued_enqueue (i : Fin Config.poolSize) (ingress : Port) (sent : Telegram) (set : PortSet) (s : State) :
    let placed := (set.ports.filter fun q => (s.port q).hasRoom).length
    Enqueued i sent (if placed = 0 then .free else .held ingress placed) set.ports s (enqueue i ingress sent set s) := by
  have hall : Enqueued i sent (.held ingress (0 + (set.ports.filter fun q => (s.port q).hasRoom).length)) set.ports
      (s.setBuffer i ⟨.held ingress 0, sent⟩) _ := enqueued_all set.ports (nodup_ports set) (State.buffer_setBuffer_same ..)
  rw [Nat.zero_add] at hall
  unfold enqueue
  dsimp only
  rw [hall.buffer]
  obtain ⟨hcore, hothers, hbuffer, hout, hdecided⟩ := hall
  have hothers' j (hj : j ≠ i) := (hothers j hj).trans (State.buffer_setBuffer_ne _ _ hj)
  generalize (set.ports.filter fun q => (s.port q).hasRoom).length = placed at hbuffer ⊢
  generalize set.ports.foldl _ _ = u at hcore hothers hbuffer hout hdecided hothers' ⊢
  cases placed with
  | zero =>
    rw [if_pos rfl]
    refine ⟨?_, fun j hj => (State.buffer_setBuffer_ne _ _ hj).trans (hothers' j hj), ?_, hout, hdecided⟩
    · rw [hcore]
      rfl
    · exact (State.buffer_setBuffer_same ..).trans (by rw [hbuffer])
  | succ n =>
    rw [if_neg (Nat.succ_ne_zero n)]
    exact ⟨hcore, hothers', hbuffer, hout, hdecided⟩

/-! ## Forwarding (R112, R114, R118) -/

theorem raiseHit_eq (entry : Option (Fin 240)) (s : State) : raiseHit entry s = { s with
    hits := match entry with
      | some k => s.hits.set k (countUp s.hits[k])
      | none => s.hits } := by
  cases entry <;> rfl

theorem decidedState_eq (s : State) (rest : List (Fin Config.poolSize)) (ingress : Port) (noted : Bool) :
    decidedState s rest ingress noted = { s with
      classQueue := rest
      ports := if noted then s.ports.set ingress { s.port ingress with counters := (s.port ingress).counters.raise .busySkips }
        else s.ports } := by
  cases noted <;> rfl

theorem raiseHit_port (entry : Option (Fin 240)) (s : State) (q : Port) : (raiseHit entry s).port q = s.port q := by
  cases entry <;> rfl

theorem decidedState_port (s : State) (rest : List (Fin Config.poolSize)) (ingress : Port) (noted : Bool) (q : Port) :
    (decidedState s rest ingress noted).port q = if q = ingress then (if noted then
      { s.port ingress with counters := (s.port ingress).counters.raise .busySkips } else s.port ingress) else s.port q := by
  cases noted with
  | false =>
    split
    · next h => rw [h]; rfl
    · rfl
  | true =>
    split
    · next h => rw [h]; exact PerPort.get_set_same ..
    · next h => exact PerPort.get_set_ne _ _ h

theorem mem_ports_without (set : PortSet) (ingress q : Port) :
    q ∈ (PortSet.without set ingress).ports ↔ q ≠ ingress ∧ set.get q = true := by
  cases q <;> cases ingress <;> simp [PortSet.ports, PortSet.without, PerPort.get, PerPort.set]

/-- Settles O35: the decision's copies, each port deciding for itself. -/
theorem classificationForwards : Obligations.ClassificationForwards := by
  refine ⟨fun s t => ?_, fun t => ⟨rfl, rfl, fun _ => rfl⟩, ?_⟩
  · rw [isCommand, Bool.and_eq_true, decide_eq_true_iff, decide_eq_true_iff]
    rfl
  intro s i rest ingress d noted sent hs hqueue hclaim hordinary hscan hsome hsent takes placed
  have hexec := exec_classification_ordinary hs hqueue hclaim hordinary hscan
  have hset : ¬ (PortSet.without d.forward ingress).isEmpty = true := fun h => by
    obtain ⟨q, hq, hget⟩ := hsome
    exact hq ((without_isEmpty_iff _ _).1 h q hget)
  have happly : applyDecision i ingress (s.buffer i).telegram d (decidedState s rest ingress noted)
      = enqueue i ingress sent (PortSet.without d.forward ingress) (raiseHit d.entry (decidedState s rest ingress noted)) := by
    unfold applyDecision
    dsimp only
    rw [if_neg hset, hsent]
  rw [happly] at hexec
  have hports q : (raiseHit d.entry (decidedState s rest ingress noted)).port q
      = if q = ingress then (if noted then
          { s.port ingress with counters := (s.port ingress).counters.raise .busySkips } else s.port ingress) else s.port q := by
    rw [raiseHit_port, decidedState_port]
  have hone q (hq : q ≠ ingress) := (hports q).trans (if_neg hq)
  have hplaced : ((PortSet.without d.forward ingress).ports.filter fun q =>
      ((raiseHit d.entry (decidedState s rest ingress noted)).port q).hasRoom) = [Port.a, .b, .c].filter takes := by
    rw [PortSet.ports, List.filter_filter]
    refine List.filter_congr fun q _ => ?_
    by_cases hq : q = ingress
    · subst hq
      simp [takes, PortSet.without]
    · rw [hone q hq, PortSet.without, PerPort.get_set_ne _ _ hq]
      simp only [takes, LinePort.hasRoom, decide_eq_true hq, Bool.true_and]
      rw [Bool.and_comm, Bool.and_assoc]
      rfl
  obtain ⟨hcore, hothers, hbuffer, hout, hdecided⟩ :=
    enqueued_enqueue i ingress sent (PortSet.without d.forward ingress) (raiseHit d.entry (decidedState s rest ingress noted))
  rw [hplaced] at hbuffer
  generalize enqueue i ingress sent (PortSet.without d.forward ingress) (raiseHit d.entry (decidedState s rest ingress noted)) = t
    at hexec hcore hothers hbuffer hout hdecided
  have hclock : (raiseHit d.entry (decidedState s rest ingress noted)).clock = s.clock := by
    rw [raiseHit_eq, decidedState_eq]
  have hpool : (raiseHit d.entry (decidedState s rest ingress noted)).pool = s.pool := by
    rw [raiseHit_eq, decidedState_eq]
  have hcore' : t = { s with
      classQueue := rest
      hits := match d.entry with
        | some k => s.hits.set k (countUp s.hits[k])
        | none => s.hits
      ports := t.ports
      pool := t.pool } := by
    rw [hcore, raiseHit_eq, decidedState_eq]
  refine ⟨t, hexec, ?_, ?_, ?_, ?_, ?_, ?_, ?_, ?_, ?_, ?_, fun j hj => (hothers j hj).trans (buffer_of_pool hpool j), hbuffer, ?_,
    fun q hq => ⟨fun hforward => ?_, fun hforward hclosed => ?_, fun hforward hopen hfull => ?_, fun htakes => ?_⟩⟩
  iterate 9 · rw [hcore']
  · exact (congrArg State.hits hcore').trans rfl
  · rw [hout ingress fun h => ((mem_ports_without ..).1 h).1 rfl, hports, if_pos rfl]
  · rw [hout q fun h => by simp [((mem_ports_without ..).1 h).2] at hforward, hone q hq]
  · obtain ⟨hrefused, -⟩ := hdecided q ((mem_ports_without ..).2 ⟨hq, hforward⟩)
    rw [hone q hq] at hrefused
    rw [hrefused (by rw [LinePort.hasRoom, hclosed, Bool.false_and]), refusalCounter, hclosed]
    rfl
  · obtain ⟨hrefused, -⟩ := hdecided q ((mem_ports_without ..).2 ⟨hq, hforward⟩)
    rw [hone q hq] at hrefused
    rw [hrefused (by rw [LinePort.hasRoom, hopen, Bool.true_and]; exact decide_eq_false (Nat.not_lt.2 hfull)), refusalCounter, hopen]
    rfl
  · simp only [takes, Bool.and_eq_true, decide_eq_true_iff] at htakes
    obtain ⟨⟨⟨-, hforward⟩, hopen⟩, hroom⟩ := htakes
    obtain ⟨-, htaken⟩ := hdecided q ((mem_ports_without ..).2 ⟨hq, hforward⟩)
    rw [hone q hq, hclock] at htaken
    obtain ⟨hqueue', hcounters, hmode, hrx, hbusy, hwaits, hbegins⟩ :=
      htaken (by rw [LinePort.hasRoom, hopen, Bool.true_and]; exact decide_eq_true hroom)
    exact ⟨hqueue', hcounters, hmode, hrx, hbusy, hwaits, hbegins⟩

end Sys2Proof.Machine
end

section
/-! SUPPORT. The line's coding: the check value's residue (R4), the characters and levels of a telegram (R2, R3), an undisturbed character
read (R14 to R18), arbitration (R41). -/

namespace Sys2Proof.Machine

/-! ## The check value (R4) -/

/-- The register ends at 0 exactly where it held, in its top bits, the bits taken in, and 0 below them. -/
theorem foldl_crcBit_eq_zero_iff : ∀ (bits : List Bool) (reg : Check), bits.length ≤ 16 →
    (bits.foldl crcBit reg = 0 ↔ ∀ i < 16, reg.getMsbD i = bits.getD i false)
  | [], reg, _ => by
    refine ⟨fun h i _ => by rw [List.foldl_nil] at h; rw [h]; simp, fun h => ?_⟩
    refine BitVec.eq_of_getMsbD_eq fun i hi => ?_
    rw [List.foldl_nil, h i hi]
    simp
  | bit :: rest, reg, hlength => by
    rw [List.length_cons] at hlength
    rw [List.foldl_cons, foldl_crcBit_eq_zero_iff rest _ (by omega), crcBit]
    by_cases hbit : reg.msb = bit
    · have hshift i (hi : i < 16) : (reg <<< 1).getMsbD i = reg.getMsbD (i + 1) := by
        rw [BitVec.getMsbD_shiftLeft, Nat.add_comm]
      rw [if_neg (by rw [hbit]; simp)]
      refine ⟨fun h i hi => ?_, fun h i hi => ?_⟩
      · cases i with
        | zero => exact hbit
        | succ i => rw [← hshift i (by omega), h i (by omega), List.getD_cons_succ]
      · rw [hshift i hi]
        by_cases hlast : i + 1 < 16
        · exact h (i + 1) hlast
        · rw [BitVec.getMsbD_of_ge _ _ (by omega), List.getD_eq_default _ _ (by omega)]
    · rw [if_pos (by simpa using hbit)]
      refine ⟨fun h => ?_, fun h => absurd (h 0 (by omega)) hbit⟩
      have hlow := h 15 (by omega)
      rw [List.getD_eq_default _ _ (by omega), BitVec.getMsbD_xor, BitVec.getMsbD_shiftLeft, BitVec.getMsbD_of_ge _ _ (by omega)] at hlow
      exact absurd hlow (by decide)

theorem getMsbD_append_bytes (hi lo : Byte) : ∀ i < 16, (hi ++ lo).getMsbD i = (byteBits hi ++ byteBits lo).getD i false := by
  intro i h
  rw [BitVec.getMsbD_append]
  interval_cases i <;> simp [byteBits, BitVec.getMsbD]

/-- Settles O4: the residue by the bits that remain to be taken in. -/
theorem checkValueResidue : Obligations.CheckValueResidue := by
  refine ⟨rfl, by decide +kernel, by decide +kernel, by decide +kernel, by decide +kernel, fun bytes hi lo => ?_⟩
  have htwo : crcOf (bytes ++ [hi, lo]) = (byteBits hi ++ byteBits lo).foldl crcBit (crcOf bytes) := by
    simp [crcOf, crcByte]
  rw [htwo, foldl_crcBit_eq_zero_iff _ _ (by simp [byteBits])]
  refine ⟨fun h => BitVec.eq_of_getMsbD_eq fun i hi' => ?_, fun h i hi' => ?_⟩
  · rw [getMsbD_append_bytes hi lo i hi', h i hi']
  · rw [← h, getMsbD_append_bytes hi lo i hi']

/-! ## The telegram on the line (R2, R3, R40) -/

theorem checkBytes_append (c : Check) : checkHighByte c ++ checkLowByte c = c := by
  refine BitVec.eq_of_getLsbD_eq fun i hi => ?_
  simp only [checkHighByte, checkLowByte, BitVec.getLsbD_append, BitVec.getLsbD_extractLsb']
  by_cases h : i < 8
  · simp [h]
  · simp [h, show i - 8 < 8 by omega, show 8 + (i - 8) = i by omega]

theorem characters_eq (t : Telegram) : t.characters = ⟨true, t.destination, false, false⟩ ::
    plainCharacters (t.source :: t.control :: t.payload.take t.length ++ [checkHighByte t.check, checkLowByte t.check]) := rfl

theorem length_characterLevels (mark : Bool) (data : Byte) : (characterLevels mark data).length = 11 := rfl

theorem length_levels (t : Telegram) : t.levels.length = 11 * t.characters.length := by
  simp [Telegram.levels, List.length_flatMap, length_characterLevels, Nat.mul_comm]

/-- Settles O5: the characters written out. -/
theorem telegramOnTheLine : Obligations.TelegramOnTheLine := by
  refine ⟨fun _ _ => rfl, rfl, rfl, fun t hwhole => ?_⟩
  have htake : t.payload.take t.length = t.payload := List.take_of_length_le hwhole.le
  have hpayload : t.payload.length = t.length := hwhole
  refine ⟨checkHighByte t.check, checkLowByte t.check, ?_, ?_, ?_, ?_, rfl, ?_⟩
  · rw [checkBytes_append, Telegram.check, Telegram.bytes, htake]
    rfl
  · rw [characters_eq, htake]
    simp [plainCharacters, Function.comp_def]
  · rw [characters_eq, htake]
    refine congrArg (true :: ·) (List.eq_replicate_iff.2 ⟨?_, ?_⟩)
    · simp [plainCharacters, hpayload]
      omega
    · simp only [plainCharacters, List.map_map, List.mem_map]
      rintro _ ⟨_, _, rfl⟩
      rfl
  · rw [characters_eq]
    intro c hc
    rcases List.mem_cons.1 hc with rfl | hc
    · exact ⟨rfl, rfl⟩
    · obtain ⟨_, _, rfl⟩ := List.mem_map.1 hc
      exact ⟨rfl, rfl⟩
  · rw [length_levels, characters_eq, htake]
    simp [plainCharacters, hpayload]
    omega

/-! ## An undisturbed character read (R14 to R18) -/

/-- Eight samples of one level are one bit more, from whatever level the bit before it had (R16, R17). -/
theorem characterOfSamples_bit {bit : Nat} (hbit : bit < 9) (window : List Level) (last : Level) (bits : List Bool) (value : Bool)
    (rest : List Level) :
    characterOfSamples (.character ⟨bit, 8, window, last, bits, false⟩) (List.replicate 8 (levelOf value) ++ rest)
      = characterOfSamples (.character ⟨bit + 1, 8, List.replicate 3 (levelOf value), levelOf value, value :: bits, false⟩) rest := by
  have hlast : ¬ bit = 9 := by omega
  cases last <;> cases value <;>
    simp [characterOfSamples, takeSample, placeSample, bitDecided, decideBit, levelOf, List.replicate, majority, disagree, hlast]

/-- The samples of a row of bits, after which the character stands at the last of them. -/
theorem characterOfSamples_bits : ∀ (values : List Bool) {bit : Nat} (window : List Level) (last : Level) (bits : List Bool)
    (rest : List Level), bit + values.length ≤ 9 →
    ∃ window' last', characterOfSamples (.character ⟨bit, 8, window, last, bits, false⟩) (samplesOf (values.map levelOf) ++ rest)
      = characterOfSamples (.character ⟨bit + values.length, 8, window', last', values.reverse ++ bits, false⟩) rest
  | [], bit, window, last, bits, rest, _ => ⟨window, last, rfl⟩
  | value :: values, bit, window, last, bits, rest, hbit => by
    rw [List.length_cons] at hbit
    have hsamples : samplesOf ((value :: values).map levelOf) ++ rest
        = List.replicate 8 (levelOf value) ++ (samplesOf (values.map levelOf) ++ rest) := by
      simp [samplesOf]
    obtain ⟨window', last', h⟩ := characterOfSamples_bits values (bit := bit + 1) (List.replicate 3 (levelOf value)) (levelOf value)
      (value :: bits) rest (by omega)
    refine ⟨window', last', ?_⟩
    rw [hsamples, characterOfSamples_bit (by omega), h, List.length_cons, List.reverse_cons, List.append_assoc,
      Nat.add_assoc, Nat.add_comm 1]
    rfl

/-- The stop bit's sample 6 decides the character (R18). -/
theorem characterOfSamples_stop (window : List Level) (last : Level) (bits : List Bool) :
    characterOfSamples (.character ⟨9, 8, window, last, bits, false⟩) (List.replicate 6 .recessive)
      = some (characterOfBits (true :: bits) false) := by
  cases last <;>
    simp [characterOfSamples, takeSample, placeSample, decideBit, List.replicate, majority, disagree]

/-- The start bit's eight samples, the first one seen by start search or not (R14, R15). -/
theorem characterOfSamples_start (rest : List Level) :
    characterOfSamples (.searching 2) (List.replicate 8 .dominant ++ rest)
        = characterOfSamples (.character ⟨0, 8, [.dominant, .dominant], .dominant, [], false⟩) rest
      ∧ characterOfSamples (.candidate []) (List.replicate 7 .dominant ++ rest)
        = characterOfSamples (.character ⟨0, 8, [.dominant, .dominant], .dominant, [], false⟩) rest := by
  constructor <;>
    simp [characterOfSamples, takeSample, placeSample, startOutcome, decideBit, List.replicate]

theorem bitsValue_byteBits (data : Byte) : bitsValue (byteBits data) = data := by
  refine BitVec.eq_of_toNat_eq ?_
  revert data
  decide +kernel

/-- Settles O6: the bits one after the other, each through its eight samples. -/
theorem undisturbedCharacterIsRead : Obligations.UndisturbedCharacterIsRead := by
  intro mark data samples
  have hsamples : samples = List.replicate 8 .dominant ++ (samplesOf ((mark :: byteBits data).map levelOf) ++ List.replicate 6 .recessive) := rfl
  obtain ⟨window, last, hbits⟩ := characterOfSamples_bits (mark :: byteBits data) (bit := 0) [.dominant, .dominant] .dominant []
    (List.replicate 6 .recessive) (by simp [byteBits])
  have hread : characterOfSamples (.character ⟨0, 8, [.dominant, .dominant], .dominant, [], false⟩)
      (samplesOf ((mark :: byteBits data).map levelOf) ++ List.replicate 6 .recessive) = some ⟨mark, data, false, false⟩ := by
    refine (hbits.trans (characterOfSamples_stop ..)).trans (congrArg some ?_)
    rw [show (⟨mark, data, false, false⟩ : Character) = ⟨mark, bitsValue (byteBits data), false, false⟩ by rw [bitsValue_byteBits]]
    rfl
  obtain ⟨hsearching, hcandidate⟩ := characterOfSamples_start (samplesOf ((mark :: byteBits data).map levelOf) ++ List.replicate 6 .recessive)
  exact ⟨hsamples ▸ hsearching.trans hread, hsamples ▸ hcandidate.trans hread⟩

/-! ## Arbitration (R8, R41) -/

/-- The value of a row of bits, the first the most significant. -/
def rowValue : List Bool → Nat
  | [] => 0
  | b :: rest => b.toNat * 2 ^ rest.length + rowValue rest

theorem rowValue_lt : ∀ bits : List Bool, rowValue bits < 2 ^ bits.length
  | [] => Nat.one_pos
  | b :: rest => by
    have := rowValue_lt rest
    rw [rowValue, List.length_cons, Nat.pow_succ]
    cases b <;> simp <;> omega

theorem rowValue_byteBits (b : Byte) : rowValue (byteBits b) = b.toNat := by
  revert b
  decide +kernel

/-- Of two rows of bits the lower one is the first to have a 0 where the other has a 1. -/
theorem rowValue_lt_split : ∀ {xs ys : List Bool}, xs.length = ys.length → rowValue xs < rowValue ys →
    ∃ same as bs, xs = same ++ false :: as ∧ ys = same ++ true :: bs ∧ as.length = bs.length
  | [], [], _, h => absurd h (Nat.lt_irrefl _)
  | x :: xs, y :: ys, hlength, h => by
    have hlength' : xs.length = ys.length := Nat.succ.inj hlength
    rw [rowValue, rowValue, hlength'] at h
    have hx := rowValue_lt xs
    have hy := rowValue_lt ys
    rw [hlength'] at hx
    by_cases heq : x = y
    · subst heq
      obtain ⟨same, as, bs, rfl, rfl, hrest⟩ := rowValue_lt_split hlength' (by omega)
      exact ⟨x :: same, as, bs, rfl, rfl, hrest⟩
    · cases x <;> cases y
      · exact absurd rfl heq
      · exact ⟨[], xs, ys, rfl, rfl, hlength'⟩
      · simp at h
        omega
      · exact absurd rfl heq

theorem wiredAnd_self (x : Level) : wiredAnd x x = x := by cases x <;> rfl

theorem sharedLine_same : ∀ (same xs ys : List Level),
    sharedLine true true (same ++ xs) (same ++ ys) = same ++ sharedLine true true xs ys
  | [], _, _ => rfl
  | x :: same, xs, ys => by
    simp [sharedLine, wiredAnd_self, sharedLine_same same]

/-- A line that one sender alone still drives carries what it sends. -/
theorem sharedLine_alone : ∀ {xs ys : List Level}, xs.length = ys.length → sharedLine true false xs ys = xs
  | [], [], _ => rfl
  | x :: xs, y :: ys, h => by
    have hread : wiredAnd x .recessive = x := by cases x <;> rfl
    simp [sharedLine, hread, sharedLine_alone (Nat.succ.inj h)]

theorem readBackVerdict_self (bit : Nat) (x : Level) : readBackVerdict bit x x = .good := by cases x <;> rfl

theorem attemptVerdict_append : ∀ (same sents reads : List Level) (bit : Nat),
    attemptVerdict bit (same ++ sents) (same ++ reads) = attemptVerdict (bit + same.length) sents reads
  | [], _, _, _ => rfl
  | x :: same, sents, reads, bit => by
    rw [List.cons_append, List.cons_append, attemptVerdict, readBackVerdict_self]
    dsimp only
    rw [attemptVerdict_append same, List.length_cons, Nat.add_assoc, Nat.add_comm 1]

theorem attemptVerdict_self (bit : Nat) (levels : List Level) : attemptVerdict bit levels levels = none := by
  have h := attemptVerdict_append levels [] [] bit
  rw [List.append_nil] at h
  exact h

/-- The sender of the first dominant bit wins, and the other one loses at that bit (R41). -/
theorem arbitration {same as bs : List Level} (hlength : as.length = bs.length) (hfirst : 1 ≤ same.length) (hlast : same.length ≤ 20) :
    let line := sharedLine true true (same ++ .dominant :: as) (same ++ .recessive :: bs)
    line = same ++ .dominant :: as ∧ attemptVerdict 0 (same ++ .recessive :: bs) line = some (same.length, .arbitrationLost) := by
  have hline : sharedLine true true (same ++ .dominant :: as) (same ++ .recessive :: bs) = same ++ .dominant :: as := by
    rw [sharedLine_same]
    refine congrArg (same ++ ·) ?_
    simp [sharedLine, wiredAnd, sharedLine_alone hlength]
  refine ⟨hline, ?_⟩
  rw [hline, attemptVerdict_append, Nat.zero_add, attemptVerdict, readBackVerdict, inArbitrationSpan, decide_eq_true hfirst,
    decide_eq_true hlast]
  rfl

/-- The levels of characters 1 and 2. -/
theorem levels_take (t : Telegram) : t.levels.take 22 = characterLevels true t.destination ++ characterLevels false t.source := rfl

theorem characterLevels_eq (mark : Bool) (data : Byte) :
    characterLevels mark data = .dominant :: levelOf mark :: (byteBits data).map levelOf ++ [.recessive] := rfl

/-- Settles O7: the first bit in which the headers differ decides. -/
theorem lowerHeaderWinsArbitration : Obligations.LowerHeaderWinsArbitration := by
  intro t u hword line
  suffices h : ∃ same as bs, t.levels.take 22 = same ++ .dominant :: as ∧ u.levels.take 22 = same ++ .recessive :: bs
      ∧ as.length = bs.length ∧ 1 ≤ same.length ∧ same.length ≤ 20 by
    obtain ⟨same, as, bs, ht, hu, hlength, hfirst, hlast⟩ := h
    obtain ⟨hline, hverdict⟩ := arbitration hlength hfirst hlast
    have hline' : line = t.levels.take 22 := by
      rw [ht, ← hline, ← ht, ← hu]
    refine ⟨hline', by rw [hline']; exact attemptVerdict_self .., same.length, hfirst, hlast, ?_⟩
    rw [← hverdict, ← ht, ← hu]
  simp only [word, ← rowValue_byteBits] at hword
  have hsource := rowValue_lt (byteBits t.source)
  have hsource' := rowValue_lt (byteBits u.source)
  have height (b : Byte) : (byteBits b).length = 8 := rfl
  rw [height] at hsource hsource'
  rw [levels_take, levels_take]
  by_cases hdestination : rowValue (byteBits t.destination) < rowValue (byteBits u.destination)
  · obtain ⟨same, as, bs, ht, hu, hlength⟩ := rowValue_lt_split (by rw [height, height]) hdestination
    have hspan := congrArg List.length ht
    rw [height, List.length_append, List.length_cons] at hspan
    refine ⟨.dominant :: .recessive :: same.map levelOf, as.map levelOf ++ .recessive :: characterLevels false t.source,
      bs.map levelOf ++ .recessive :: characterLevels false u.source, ?_, ?_, by simp [hlength, length_characterLevels], by simp, ?_⟩
    · rw [characterLevels_eq true, ht]
      simp [levelOf]
    · rw [characterLevels_eq true, hu]
      simp [levelOf]
    · simp
      omega
  · have hsame : rowValue (byteBits t.destination) = rowValue (byteBits u.destination) := by omega
    obtain ⟨same, as, bs, ht, hu, hlength⟩ := rowValue_lt_split (xs := byteBits t.source) (ys := byteBits u.source)
      (by rw [height, height]) (by omega)
    have hspan := congrArg List.length ht
    rw [height, List.length_append, List.length_cons] at hspan
    have hdest : t.destination = u.destination := by
      rw [rowValue_byteBits, rowValue_byteBits] at hsame
      exact BitVec.eq_of_toNat_eq hsame
    refine ⟨characterLevels true u.destination ++ .dominant :: .dominant :: same.map levelOf, as.map levelOf ++ [.recessive],
      bs.map levelOf ++ [.recessive], ?_, ?_, by simp [hlength], by simp; omega, ?_⟩
    · rw [hdest, characterLevels_eq false, ht]
      simp [levelOf]
    · rw [characterLevels_eq false, hu]
      simp [levelOf]
    · simp [length_characterLevels]
      omega

end Sys2Proof.Machine
end

section
/-! SUPPORT. What falls due on an empty queue (R132, log entry 3), replies placed (R83, R151), references released (R49, R73, R80). -/

namespace Sys2Proof.Machine

/-! ## What is due (R14, R33, R50, R51, R53, R58) -/

theorem bitTimesPassed_iff (rate : BitRate) (bits since now : Nat) :
    bitTimesPassed rate bits since now = true ↔ bits * 192000000 ≤ (now - since) * rate.hertz := by
  rw [bitTimesPassed, decide_eq_true_iff]
  cases rate <;> simp only [BitRate.sampleTicks, BitRate.hertz] <;> omega

theorem limitDue_iff (p : Port) (s : State) (c : Instr) : limitDue p s = some c ↔ c = .telegramTimeLimitExpiry p
    ∧ ∃ r, (s.port p).rx = .filling r
      ∧ (s.port p).profile.timeLimit * 192000000 ≤ (s.clock - r.limitFrom) * (s.port p).profile.rate.hertz := by
  unfold limitDue
  cases (s.port p).rx with
  | filling r => simp [bitTimesPassed_iff, and_comm, eq_comm (a := c)]
  | search | skip | deaf => simp

theorem breakDue_iff (p : Port) (s : State) (c : Instr) : breakDue p s = some c ↔ c = .breakEnd p
    ∧ ∃ since, (s.port p).tx = .breaking since ∧ 16 * 192000000 ≤ (s.clock - since) * (s.port p).profile.rate.hertz := by
  unfold breakDue
  cases (s.port p).tx with
  | breaking since => simp [bitTimesPassed_iff, and_comm, eq_comm (a := c), Config.breakBits]
  | idle | waitGap | arbitrating _ | sending _ | halted => simp

theorem attemptDue_iff (p : Port) (s : State) (c : Instr) : attemptDue p s = some c ↔ c = .deadlineExpiryDuringAttempt p
    ∧ ∃ a e rest, (s.port p).tx.attempt = some a ∧ (s.port p).queue = e :: rest ∧ a.completed = false ∧ a.expired = false
      ∧ e.deadline ≤ s.clock := by
  unfold attemptDue
  cases (s.port p).tx.attempt with
  | none => simp
  | some a =>
    cases (s.port p).queue with
    | nil => simp
    | cons e rest =>
      simp [and_assoc, eq_comm (a := c)]
      tauto

theorem beingSent_eq_false_iff (x : LinePort) (ref : BufferRef) :
    beingSent x ref = false ↔ ∀ a, x.tx.attempt = some a → a.entry ≠ ref := by
  unfold beingSent
  cases x.tx.attempt <;> simp

/-- An entry whose deadline has passed and which is not being sent (R50). -/
theorem entryDue_pred_iff (p : Port) (s : State) (e : EgressEntry) :
    (decide (e.deadline ≤ s.clock) && !beingSent (s.port p) e.ref) = true
      ↔ e.deadline ≤ s.clock ∧ ∀ a, (s.port p).tx.attempt = some a → a.entry ≠ e.ref := by
  rw [Bool.and_eq_true, decide_eq_true_iff, Bool.not_eq_true', beingSent_eq_false_iff]

theorem entryDue_some {p : Port} {s : State} {c : Instr} (h : entryDue p s = some c) :
    ∃ e, e ∈ (s.port p).queue ∧ c = .entryDeadlineExpiry p e.ref ∧ e.deadline ≤ s.clock
      ∧ ∀ a, (s.port p).tx.attempt = some a → a.entry ≠ e.ref := by
  obtain ⟨e, hfind, rfl⟩ := Option.map_eq_some_iff.1 h
  have hpred := List.find?_some hfind
  exact ⟨e, List.mem_of_find?_eq_some hfind, rfl, (entryDue_pred_iff p s e).1 hpred⟩

theorem entryDue_none {p : Port} {s : State} (h : entryDue p s = none) {e : EgressEntry} (he : e ∈ (s.port p).queue) :
    ¬ (e.deadline ≤ s.clock ∧ ∀ a, (s.port p).tx.attempt = some a → a.entry ≠ e.ref) := by
  rw [entryDue, Option.map_eq_none_iff, List.find?_eq_none] at h
  rw [← entryDue_pred_iff]
  exact h e he

theorem gapDue_iff (p : Port) (s : State) (c : Instr) : gapDue p s = some c ↔ c = .idleGap ⟨p, 96⟩
    ∧ ((s.port p).mode.isOpen = true ∧ (s.port p).candidate = none) ∧ (s.port p).line.idle = false ∧ (s.port p).tx.driving = false
    ∧ (s.port p).line.run = none ∧ Reached s p 96 (s.port p).line.rest := by
  rw [← gapReached_iff]
  simp [gapDue, and_comm, eq_comm (a := c), Config.idleGapSamples]

theorem stuckDue_iff (p : Port) (s : State) (c : Instr) : stuckDue p s = some c ↔ c = .stuckLine ⟨p, 2048⟩ .blocksFirst
    ∧ ((s.port p).mode.isOpen = true ∧ (s.port p).candidate = none) ∧ (s.port p).line.stuck = false ∧ (s.port p).line.rest = none
    ∧ Reached s p 2048 (s.port p).line.run := by
  rw [← stuckReached_iff]
  simp [stuckDue, and_comm, eq_comm (a := c), Config.stuckSamples]

/-- What is due at a port is overdue there. -/
theorem overdue_of_portDue {p : Port} {s : State} {c : Instr} (h : portDue p s = some c) : Overdue s p c := by
  simp only [portDue, Option.orElse_eq_some] at h
  unfold Overdue
  dsimp only
  rcases h with h | ⟨-, h | ⟨-, h | ⟨-, h | ⟨-, h | ⟨-, h⟩⟩⟩⟩⟩
  · exact .inl ((limitDue_iff p s c).1 h)
  · exact .inr (.inl ((breakDue_iff p s c).1 h))
  · exact .inr (.inr (.inl ((attemptDue_iff p s c).1 h)))
  · exact .inr (.inr (.inr (.inl (entryDue_some h))))
  · exact .inr (.inr (.inr (.inr (.inl ((gapDue_iff p s c).1 h)))))
  · exact .inr (.inr (.inr (.inr (.inr ((stuckDue_iff p s c).1 h)))))

/-- Where nothing is due at a port, nothing is overdue there. -/
theorem not_overdue_of_portDue {p : Port} {s : State} (h : portDue p s = none) (c : Instr) : ¬ Overdue s p c := by
  simp only [portDue, Option.orElse_eq_none] at h
  obtain ⟨hlimit, hbreak, hattempt, hentry, hgap, hstuck⟩ := h
  rintro (h | h | h | ⟨e, he, -, hdue⟩ | h | h)
  · rw [(limitDue_iff p s c).2 h] at hlimit
    cases hlimit
  · rw [(breakDue_iff p s c).2 h] at hbreak
    cases hbreak
  · rw [(attemptDue_iff p s c).2 h] at hattempt
    cases hattempt
  · exact entryDue_none hentry he hdue
  · rw [(gapDue_iff p s c).2 h] at hgap
    cases hgap
  · rw [(stuckDue_iff p s c).2 h] at hstuck
    cases hstuck

theorem dueEvent_started {s : State} (hs : s.phase = .started) : dueEvent s =
    if restartDue s then some .restartReset
    else if s.classQueue ≠ [] then some .classification
    else storeDue s <|> portDue .a s <|> portDue .b s <|> portDue .c s := by
  rw [dueEvent, hs]

theorem step_empty_some {s : State} (hempty : s.pending = []) {c : Instr} (hdue : dueEvent s = some c) : step s = exec c s := by
  rw [step, hempty]
  dsimp only
  rw [hdue]

theorem step_empty_none {s : State} (hempty : s.pending = []) (hdue : dueEvent s = none) : step s = .next (tick s) := by
  rw [step, hempty]
  dsimp only
  rw [hdue]

/-- Settles O2: what is due is overdue, and the other way round; a store operation is due once its duration has passed. -/
theorem stepOnEmptyQueue : Obligations.StepOnEmptyQueue := by
  refine fun s hempty => ⟨fun c => step_empty_some hempty, step_empty_none hempty, fun hs c hdue => ?_, fun hs hdue => ?_,
    fun hreset hcause => ?_, fun hreset hcause => ?_, fun r micros hs hrestart hqueue hrunning hmicros => ?_⟩
  · rw [dueEvent_started hs] at hdue
    split at hdue
    · next h => exact .inl ⟨(Option.some.inj hdue).symm, h⟩
    · split at hdue
      · next h => exact .inr (.inl ⟨(Option.some.inj hdue).symm, h⟩)
      · simp only [Option.orElse_eq_some] at hdue
        rcases hdue with h | ⟨-, h | ⟨-, h | ⟨-, h⟩⟩⟩
        · exact .inr (.inr (.inl h))
        all_goals exact .inr (.inr (.inr ⟨_, overdue_of_portDue h⟩))
  · rw [dueEvent_started hs] at hdue
    split at hdue
    · cases hdue
    · next hrestart =>
      split at hdue
      · cases hdue
      · next hqueue =>
        simp only [Option.orElse_eq_none] at hdue
        obtain ⟨hstore, ha, hb, hc⟩ := hdue
        refine ⟨Bool.eq_false_iff.2 hrestart, not_not.1 hqueue, hstore, fun p => ?_⟩
        cases p
        exacts [not_overdue_of_portDue ha, not_overdue_of_portDue hb, not_overdue_of_portDue hc]
  · refine step_empty_some hempty ?_
    rw [dueEvent, hreset]
    rcases hcause with h | ⟨p, h⟩ <;> simp only [startUpDue, h]
  · refine step_empty_none hempty ?_
    rw [dueEvent, hreset]
    rcases hcause with h | h <;> simp only [startUpDue, h]
  · have hduration : r.since + r.micros * Config.ticksPerMicro = r.since + 192 * micros := by
      have hsame : micros = r.micros := by
        rw [hmicros, Running.micros]
        cases r.work <;> rfl
      rw [hsame, Nat.mul_comm]
      rfl
    have hstore : storeDue s = if r.since + 192 * micros ≤ s.clock then some r.work.completion else none := by
      rw [storeDue, hrunning, ← hduration]
    refine ⟨fun hearly => by rw [hstore, if_neg (by omega)], fun hpassed => ?_⟩
    rw [step_empty_some hempty (c := r.work.completion)]
    · cases hwork : r.work with
      | slot w => cases w <;> rfl
      | eraseSegment _ | eraseAll _ _ | wipe _ _ | blankCheck _ => rfl
    · rw [dueEvent_started hs, if_neg (Bool.eq_false_iff.1 hrestart), if_neg (not_not.2 hqueue), hstore, if_pos hpassed]
      rfl

/-! ## Replies (R83, R151) -/

theorem LinePort.hasRoom_eq (x : LinePort) : x.hasRoom = (x.mode.isOpen && decide (x.queue.length < 12)) := rfl

/-- Settles O29: the reply written out, and its entry as any other. -/
theorem replyIsPlacedOrDiscarded : Obligations.ReplyIsPlacedOrDiscarded := by
  refine ⟨fun address source code result data hdata => ?_, fun s p reply => ⟨fun hclosed => ?_, fun hopen hfull => ?_,
    fun hopen hroom => ?_⟩⟩
  · intro t
    have hcontrol : t.control.toNat = 7 * 32 + (2 + data.length) := by
      rw [show t.control = BitVec.ofNat 8 (0xE0 + (2 + data.length)) from rfl, BitVec.toNat_ofNat]
      omega
    refine ⟨rfl, rfl, hcontrol, ?_, replyTelegram_whole _ _ _ _ hdata, ?_⟩
    · rw [Telegram.cls, hcontrol]
      omega
    · cases result <;> rfl
  · rw [placeReply, LinePort.hasRoom_eq, hclosed, refusalCounter, hclosed]
    rfl
  · rw [placeReply, LinePort.hasRoom_eq, hopen, decide_eq_false (Nat.not_lt.2 hfull), refusalCounter, hopen]
    rfl
  · intro t
    let u : State := { s with mgmt := { s.mgmt with unit := .replyPending, reply := some reply, replyPort := some p } }
    have ht : t = appendEntry p .reply u := by
      simp only [t, placeReply, LinePort.hasRoom_eq, hopen, Bool.true_and]
      rw [if_pos (decide_eq_true hroom)]
    obtain ⟨hpool, hmgmt, -, -⟩ := appendEntry_keeps p .reply u
    obtain ⟨hqueue, hcounters, hmode, hrx, hbusy, hwaits, hbegins⟩ := appended_appendEntry p .reply u
    have hu : OnlyLine p s u := onlyLine_iff.2 ⟨fun _ _ => rfl, by simp [u]⟩
    rw [ht]
    refine ⟨hu.trans (onlyLine_appendEntry ..), hpool, ?_, ?_, ?_, hqueue, hmode, hrx, hcounters, fun h => (hbusy h).1, hwaits, hbegins⟩
    all_goals rw [hmgmt]

/-! ## References released (R49, R73, R80) -/

/-- A release does not take back a FREE buffer (R73). -/
theorem release_free {s : State} {i : Fin Config.poolSize} (ref : BufferRef) (h : (s.buffer i).claim = .free) :
    ((s.release ref).buffer i).claim = .free := by
  by_cases hi : ref = .pool i
  · subst hi
    simp only [State.release, h]
  · rw [release_buffer_ne s hi, h]

/-- The entries of a queue removed, each counted and released (R54). -/
def dropEntries (p : Port) (entries : List EgressEntry) (s : State) : State :=
  entries.foldl (fun t e => (t.count p .dropPortClosed).release e.ref) s

theorem flush_eq_dropEntries (p : Port) (s : State) :
    flush p s = dropEntries p (s.port p).queue (s.setPort p { s.port p with queue := [] }) := rfl

theorem dropEntries_cons (p : Port) (e : EgressEntry) (rest : List EgressEntry) (s : State) :
    dropEntries p (e :: rest) s = dropEntries p rest ((s.count p .dropPortClosed).release e.ref) := rfl

theorem dropEntries_counter (p : Port) : ∀ (entries : List EgressEntry) (s : State),
    (dropEntries p entries s).counter p .dropPortClosed = countUp^[entries.length] (s.counter p .dropPortClosed)
      ∧ ∀ k, k ≠ .dropPortClosed → (dropEntries p entries s).counter p k = s.counter p k
  | [], _ => ⟨rfl, fun _ _ => rfl⟩
  | e :: rest, s => by
    have hone k : ((s.count p .dropPortClosed).release e.ref).counter p k = (s.count p .dropPortClosed).counter p k := by
      rw [State.counter, State.counter, State.release_port]
    obtain ⟨hdropped, hothers⟩ := dropEntries_counter p rest ((s.count p .dropPortClosed).release e.ref)
    rw [dropEntries_cons]
    refine ⟨?_, fun k hk => ?_⟩
    · rw [hdropped, hone, State.counter_count, List.length_cons, Function.iterate_succ_apply]
      simp
    · rw [hothers k hk, hone, State.counter_count]
      simp [hk]

theorem dropEntries_free {i : Fin Config.poolSize} (p : Port) : ∀ (entries : List EgressEntry) {s : State},
    (s.buffer i).claim = .free → ((dropEntries p entries s).buffer i).claim = .free
  | [], _, h => h
  | e :: rest, s, h => dropEntries_free p rest (s := (s.count p .dropPortClosed).release e.ref) (release_free e.ref h)

theorem dropEntries_buffer_ne {i : Fin Config.poolSize} (p : Port) (entries : List EgressEntry) (s : State)
    (h : BufferRef.pool i ∉ entries.map (·.ref)) : (dropEntries p entries s).buffer i = s.buffer i := by
  induction entries generalizing s with
  | nil => rfl
  | cons e rest ih =>
    rw [List.map_cons, List.mem_cons, not_or] at h
    obtain ⟨hne, hrest⟩ := h
    rw [dropEntries_cons, ih _ hrest]
    exact release_buffer_ne (s.count p .dropPortClosed) (Ne.symm hne)

/-- The release of a reference reads nothing but its buffer. -/
theorem release_buffer_congr {s t : State} {i : Fin Config.poolSize} (h : t.buffer i = s.buffer i) :
    (t.release (.pool i)).buffer i = (s.release (.pool i)).buffer i := by
  simp only [State.release, h]
  cases (s.buffer i).claim with
  | held ingress refs =>
    dsimp only
    split
    · rw [State.buffer_freeBuffer_same, State.buffer_freeBuffer_same, h]
    · rw [State.buffer_setBuffer_same, State.buffer_setBuffer_same]
  | free | filling _ | waiting _ => exact h

/-- A buffer that one of the entries names loses one reference. -/
theorem dropEntries_buffer {i : Fin Config.poolSize} (p : Port) (entries : List EgressEntry) (s : State)
    (hnodup : (entries.map (·.ref)).Nodup) (hmem : BufferRef.pool i ∈ entries.map (·.ref)) :
    (dropEntries p entries s).buffer i = (s.release (.pool i)).buffer i := by
  induction entries generalizing s with
  | nil => cases hmem
  | cons e rest ih =>
    rw [List.map_cons] at hnodup hmem
    obtain ⟨he, hrest⟩ := List.nodup_cons.1 hnodup
    rw [dropEntries_cons]
    rcases List.mem_cons.1 hmem with heq | hmem
    · rw [← heq] at he ⊢
      rw [dropEntries_buffer_ne p rest _ he]
      exact release_buffer_congr (s := s) (t := s.count p .dropPortClosed) rfl
    · rw [ih _ hrest hmem]
      exact release_buffer_congr (release_buffer_ne (s.count p .dropPortClosed) fun h => he (h ▸ hmem))

theorem dropEntries_mgmt (p : Port) (entries : List EgressEntry) (s : State) :
    (dropEntries p entries s).mgmt
      = if BufferRef.reply ∈ entries.map (·.ref) then { s.mgmt with unit := .idle, reply := none, replyPort := none }
        else s.mgmt := by
  induction entries generalizing s with
  | nil => exact (if_neg List.not_mem_nil).symm
  | cons e rest ih =>
    rw [dropEntries_cons, ih, List.map_cons]
    cases e.ref with
    | pool i =>
      rw [release_pool_mgmt]
      simp
    | reply => simp [State.release]

/-- The reception of a port that closes, dropped (R35). -/
def dropReception (p : Port) (s : State) : State :=
  match (s.port p).rx with
  | .filling r => (s.count p .rxBroken).freeBuffer r.buffer
  | .search => s
  | .skip => s
  | .deaf => s

theorem dropReception_filling {p : Port} {s : State} {r : RxRecord} (h : (s.port p).rx = .filling r) :
    dropReception p s = (s.count p .rxBroken).freeBuffer r.buffer := by
  rw [dropReception, h]

theorem dropReception_other {p : Port} {s : State} (h : (s.port p).rx.buffer = none) : dropReception p s = s := by
  unfold dropReception
  cases hrx : (s.port p).rx with
  | filling r =>
    rw [hrx] at h
    cases h
  | search | skip | deaf => rfl

theorem closePort_eq (p : Port) (mode : PortMode) (s : State) : closePort p mode s = flush p ((dropReception p s).setPort p
    { (dropReception p s).port p with
      mode := mode, rx := .deaf, candidate := none, ownStart := false, line := LineView.unmeasured
      tx := .halted, breakPending := false }) := by
  unfold closePort dropReception
  cases (s.port p).rx <;> rfl

/-- What the dropping of a reception keeps (R35). -/
theorem dropReception_keeps (p : Port) (s : State) :
    (dropReception p s).mgmt = s.mgmt ∧ ((dropReception p s).port p).queue = (s.port p).queue
      ∧ (dropReception p s).counter p .dropPortClosed = s.counter p .dropPortClosed
      ∧ ∀ j, (s.port p).rx.buffer ≠ some j → (dropReception p s).buffer j = s.buffer j := by
  cases hrx : (s.port p).rx with
  | filling r =>
    rw [dropReception_filling hrx]
    refine ⟨rfl, by simp, ?_, fun j hj => State.buffer_freeBuffer_ne (s.count p .rxBroken) fun e => hj (by rw [e]; rfl)⟩
    show (s.count p .rxBroken).counter p .dropPortClosed = _
    rw [State.counter_count]
    simp
  | search | skip | deaf =>
    rw [dropReception_other (by rw [hrx]; rfl)]
    exact ⟨rfl, rfl, rfl, fun _ _ => rfl⟩

/-- The closing of a port: its reception dropped, then its entries (R35, R54, R62). -/
theorem closePort_dropEntries (p : Port) (mode : PortMode) (s : State) :
    ∃ u : State, closePort p mode s = dropEntries p (s.port p).queue u ∧ u.mgmt = (dropReception p s).mgmt
      ∧ u.pool = (dropReception p s).pool ∧ (u.port p).counters = ((dropReception p s).port p).counters := by
  obtain ⟨-, hqueue, -⟩ := dropReception_keeps p s
  rw [closePort_eq, flush_eq_dropEntries, State.port_setPort_same, ← hqueue]
  exact ⟨_, rfl, rfl, rfl, by rw [State.port_setPort_same]⟩

/-- Settles O30: each reference taken back by itself. -/
theorem referencesAreReleased : Obligations.ReferencesAreReleased := by
  refine ⟨fun s i ingress refs hclaim => ⟨fun h => ?_, fun h => ?_⟩, fun _ => rfl, fun s p mode hopen => ?_⟩
  · simp only [State.release, hclaim]
    rw [if_neg (by omega)]
  · simp only [State.release, hclaim]
    rw [if_pos (by omega)]
    rfl
  intro t
  obtain ⟨v, hport⟩ := closePort_port_eq p mode s
  obtain ⟨u, hclose, hmgmt, hpool, hcounters⟩ := closePort_dropEntries p mode s
  obtain ⟨hmgmt', -, hdropped, hbuffer⟩ := dropReception_keeps p s
  have hcounter k : u.counter p k = (dropReception p s).counter p k := congrArg (Counters.read · k) hcounters
  obtain ⟨hcounted, hother⟩ := dropEntries_counter p (s.port p).queue u
  rw [← hclose] at hcounted hother
  have hreply : t.mgmt = if BufferRef.reply ∈ (s.port p).refs then { s.mgmt with unit := .idle, reply := none, replyPort := none }
      else s.mgmt := by
    rw [← hmgmt', ← hmgmt]
    exact (congrArg State.mgmt hclose).trans (dropEntries_mgmt p _ u)
  refine ⟨onlyLine_closePort p mode s, by rw [hport], by rw [hport], by rw [hport], by rw [hport], by rw [hport], by rw [hport],
    hcounted.trans (by rw [hcounter, hdropped]), closePort_counter (by decide) (by decide) p mode s,
    closePort_counter (by decide) (by decide) p mode s,
    closePort_counter (by decide) (by decide) p mode s, closePort_counter (by decide) (by decide) p mode s, fun r hr => ?_, fun hmem => ?_,
    fun hmem => ?_, fun i ingress hnodup hmem hrx => ?_⟩
  · have hfree : (u.buffer r.buffer).claim = .free := by
      rw [buffer_of_pool hpool, dropReception_filling hr, State.buffer_freeBuffer_same]
    have hbroken : u.counter p .rxBroken = countUp (s.counter p .rxBroken) := by
      rw [hcounter, dropReception_filling hr]
      exact (State.counter_count ..).trans (by simp)
    exact ⟨(congrArg (fun w => (State.buffer w r.buffer).claim) hclose).trans (dropEntries_free p _ hfree),
      (hother _ (by decide)).trans hbroken⟩
  · rw [hreply, if_pos hmem]
    exact ⟨rfl, rfl, rfl⟩
  · rw [hreply, if_neg hmem]
  · have hrelease : t.buffer i = (u.release (.pool i)).buffer i :=
      (congrArg (fun w => State.buffer w i) hclose).trans (dropEntries_buffer p _ u hnodup hmem)
    have hclaim {refs : Nat} (h : (s.buffer i).claim = .held ingress refs) (hone : 1 ≤ refs) :
        (t.buffer i).claim = if refs = 1 then .free else .held ingress (refs - 1) := by
      rw [hrelease]
      exact release_claim (by rw [buffer_of_pool hpool, hbuffer i hrx, h]) hone
    exact ⟨fun h => hclaim h (by omega), fun h => hclaim h (by omega)⟩

end Sys2Proof.Machine
end

section
/-! SUPPORT. The transmitter's events in closed form: what each makes of its port, and of the pool (R38, R42 to R53). -/

namespace Sys2Proof.Machine

/-! ## Rows of an open port -/

/-- A row of a live port has its own effect. -/
theorem whenLive {s : State} {p : Port} (h : Live s p) (f : State → State) : whenStarted (onOpenPort p f) s = .next (f s) := by
  obtain ⟨hs, hopen⟩ := h
  rw [whenStarted_started hs, onOpenPort_open hopen]

/-! ## What an operation makes of its port -/

/-- A counter raised (R84). -/
def LinePort.counted (x : LinePort) (k : CounterName) : LinePort := { x with counters := x.counters.raise k }

/-- The own-capture mark withdrawn (R23). -/
def LinePort.unmarked (x : LinePort) : LinePort := { x with rx := x.rx.unmarked }

/-- The head entry gone (R49). -/
def LinePort.headless (x : LinePort) : LinePort := { x with queue := x.queue.tail }

/-- The transmitter at rest after an attempt or a break (R38). -/
def LinePort.rested (x : LinePort) : LinePort := { x with tx := restState x.hasWork, ownStart := false }

/-- The reference of a queue's head entry released (R49). -/
def releaseHead (queue : List EgressEntry) (s : State) : State :=
  match queue with
  | [] => s
  | e :: _ => s.release e.ref

theorem releaseHead_cons (e : EgressEntry) (rest : List EgressEntry) (s : State) : releaseHead (e :: rest) s = s.release e.ref := rfl

theorem releaseHead_setPort (queue : List EgressEntry) (s : State) (p : Port) (x : LinePort) :
    releaseHead queue (s.setPort p x) = (releaseHead queue s).setPort p x := by
  cases queue with
  | nil => rfl
  | cons e rest => exact State.release_setPort ..

theorem headGone_setPort {p : Port} {e : EgressEntry} {queue rest : List EgressEntry} (s : State) {y : LinePort}
    (hqueue : queue = e :: rest) (h : y.queue = rest) : HeadGone p e rest s ((releaseHead queue s).setPort p y) :=
  ⟨by rw [State.port_setPort_same, h], by rw [hqueue]; rfl, by rw [hqueue]; rfl⟩

theorem count_eq (p : Port) (k : CounterName) (s : State) : s.count p k = s.setPort p ((s.port p).counted k) := rfl

theorem clearOwnMark_eq (p : Port) (s : State) : clearOwnMark p s = s.setPort p (s.port p).unmarked := by
  unfold clearOwnMark
  cases h : (s.port p).rx with
  | filling r => rw [LinePort.unmarked, h]; rfl
  | search | skip | deaf =>
    refine Eq.trans ?_ (congrArg (s.setPort p) (show s.port p = (s.port p).unmarked from ?_))
    · exact (State.setPort_port s p).symm
    · rw [LinePort.unmarked, h, RxState.unmarked, ← h]

theorem restTransmitter_eq (p : Port) (s : State) : restTransmitter p s = s.setPort p (s.port p).rested := rfl

theorem removeHead_eq (p : Port) (s : State) :
    removeHead p s = (releaseHead (s.port p).queue s).setPort p (s.port p).headless := by
  unfold removeHead
  cases h : (s.port p).queue with
  | nil =>
    refine (State.setPort_port s p).symm.trans (congrArg (s.setPort p) ?_)
    exact (LinePort.withQueue_self (x := s.port p) (by rw [h]; rfl)).symm
  | cons e rest =>
    rw [LinePort.headless, h]
    exact State.release_setPort ..

/-- An operation on a port that an operation on the same port follows. -/
theorem removeHead_setPort (p : Port) (s : State) (x : LinePort) :
    removeHead p (s.setPort p x) = (releaseHead x.queue s).setPort p x.headless := by
  rw [removeHead_eq, State.port_setPort_same, releaseHead_setPort, State.setPort_setPort]

theorem restTransmitter_setPort (p : Port) (s : State) (x : LinePort) : restTransmitter p (s.setPort p x) = s.setPort p x.rested := by
  rw [restTransmitter_eq, State.port_setPort_same, State.setPort_setPort]

theorem clearOwnMark_setPort (p : Port) (s : State) (x : LinePort) : clearOwnMark p (s.setPort p x) = s.setPort p x.unmarked := by
  rw [clearOwnMark_eq, State.port_setPort_same, State.setPort_setPort]

theorem count_setPort (p : Port) (s : State) (x : LinePort) (k : CounterName) : (s.setPort p x).count p k = s.setPort p (x.counted k) := by
  rw [count_eq, State.port_setPort_same, State.setPort_setPort]

theorem removeStale_setPort (p : Port) (s : State) (x : LinePort) :
    removeStale p (s.setPort p x) = (releaseHead x.queue s).setPort p (x.counted .dropStale).headless := by
  rw [removeStale, count_setPort, removeHead_setPort]
  rfl

/-! ## Attempts that end (R42 to R46, R51) -/

section Fails
variable {s : State} {p : Port} {a : Attempt} {counted : CounterName} {e : EgressEntry} {rest : List EgressEntry}

theorem failAttempt_expired (h : a.expired = true) : failAttempt p counted a s
    = (releaseHead (s.port p).queue s).setPort p (((s.port p).counted counted).unmarked.counted .dropStale).headless.rested := by
  rw [failAttempt, count_eq, clearOwnMark_setPort]
  rw [if_pos h, removeStale_setPort, restTransmitter_setPort]
  rfl

/-- One more failed attempt of the head entry (R42). -/
def LinePort.retried (x : LinePort) (e : EgressEntry) (rest : List EgressEntry) : LinePort :=
  { x with queue := { e with failed := e.failed + 1 } :: rest }

theorem retryHead_setPort {x : LinePort} (h : x.queue = e :: rest) : retryHead p (s.setPort p x) =
    if x.profile.retryLimit ≤ e.failed + 1 then (releaseHead (e :: rest) s).setPort p ((x.retried e rest).counted .dropRetry).headless
    else s.setPort p (x.retried e rest) := by
  rw [retryHead, State.port_setPort_same, h]
  dsimp only
  rw [State.setPort_setPort]
  split
  · rw [count_setPort, removeHead_setPort]
    rfl
  · rfl

theorem failAttempt_retried (h : a.expired = false) (hqueue : (s.port p).queue = e :: rest)
    (hlimit : e.failed + 1 < (s.port p).profile.retryLimit) : failAttempt p counted a s
    = s.setPort p (((s.port p).counted counted).unmarked.retried e rest).rested := by
  have hqueue' : ((s.port p).counted counted).unmarked.queue = e :: rest := hqueue
  have hlimit' : ¬ ((s.port p).counted counted).unmarked.profile.retryLimit ≤ e.failed + 1 := Nat.not_le.2 hlimit
  rw [failAttempt, count_eq, clearOwnMark_setPort]
  rw [if_neg (Bool.eq_false_iff.1 h), retryHead_setPort hqueue', if_neg hlimit', restTransmitter_setPort]

theorem failAttempt_removed (h : a.expired = false) (hqueue : (s.port p).queue = e :: rest)
    (hlimit : (s.port p).profile.retryLimit ≤ e.failed + 1) : failAttempt p counted a s
    = (releaseHead (e :: rest) s).setPort p
        ((((s.port p).counted counted).unmarked.retried e rest).counted .dropRetry).headless.rested := by
  have hqueue' : ((s.port p).counted counted).unmarked.queue = e :: rest := hqueue
  have hlimit' : ((s.port p).counted counted).unmarked.profile.retryLimit ≤ e.failed + 1 := hlimit
  rw [failAttempt, count_eq, clearOwnMark_setPort]
  rw [if_neg (Bool.eq_false_iff.1 h), retryHead_setPort hqueue', if_pos hlimit', restTransmitter_setPort]

theorem dropAttempt_eq : dropAttempt p a s = if a.expired then
      (releaseHead (s.port p).queue s).setPort p ((s.port p).unmarked.counted .dropStale).headless.rested
    else s.setPort p (s.port p).unmarked.rested := by
  rw [dropAttempt, clearOwnMark_eq]
  cases a.expired with
  | true =>
    rw [if_pos rfl, if_pos rfl, removeStale_setPort, restTransmitter_setPort]
    rfl
  | false => rw [if_neg Bool.false_ne_true, if_neg Bool.false_ne_true, restTransmitter_setPort]

theorem endUncounted_attempt (ha : (s.port p).tx.attempt = some a) (hc : a.completed = false) :
    endUncounted p s = dropAttempt p a s := by
  unfold endUncounted
  cases htx : (s.port p).tx with
  | arbitrating b | sending b =>
    rw [htx] at ha
    obtain rfl : b = a := Option.some.inj ha
    dsimp only
    rw [if_neg (Bool.eq_false_iff.1 hc)]
  | idle | waitGap | breaking _ | halted =>
    rw [htx] at ha
    cases ha

theorem endUncounted_breaking {since : Nat} (h : (s.port p).tx = .breaking since) : endUncounted p s = s.setPort p (s.port p).rested := by
  rw [endUncounted, h]
  rfl

theorem endUncounted_quiet (h : (s.port p).tx.driving = false) : endUncounted p s = s := by
  unfold endUncounted
  cases htx : (s.port p).tx with
  | arbitrating b | sending b =>
    rw [htx, TxState.driving, Bool.not_eq_false'] at h
    dsimp only
    rw [if_pos h]
  | breaking _ =>
    rw [htx] at h
    cases h
  | idle | waitGap | halted => rfl

/-- A transmitter that drives its line sends an attempt or a break (R45). -/
theorem driving_cases {x : TxState} (h : x.driving = true) :
    (∃ since, x = .breaking since) ∨ ∃ a, x.attempt = some a ∧ a.completed = false := by
  cases x with
  | arbitrating b | sending b => exact .inr ⟨b, rfl, by simpa [TxState.driving] using h⟩
  | breaking since => exact .inl ⟨since, rfl⟩
  | idle | waitGap | halted => cases h

end Fails

/-- Settles O20: the three ends of a failed attempt, each in closed form. -/
theorem failedAttemptIsRetriedOrRemoved : Obligations.FailedAttemptIsRetriedOrRemoved := by
  intro s p c counted a e rest hlive hcompleted hqueue hcause
  have hexec : exec c s = .next (failAttempt p counted a s) := by
    rcases hcause with ⟨rfl, rfl, htx⟩ | ⟨rfl, rfl, htx | htx⟩ <;> refine (whenLive hlive _).trans (congrArg _ ?_)
    · simp only [arbitrationLost, htx, hcompleted, Bool.false_eq_true, if_false]
    all_goals simp only [collide, htx, hcompleted, Bool.false_eq_true, if_false]
  refine ⟨_, hexec, onlyLine_failAttempt p counted a s, ?_⟩
  cases hexpired : a.expired with
  | true =>
    rw [failAttempt_expired hexpired, State.port_setPort_same]
    refine ⟨rfl, rfl, rfl, rfl, by simp, by simp, fun _ => ⟨rfl, headGone_setPort s hqueue (congrArg List.tail hqueue), ?_⟩⟩
    exact congrArg (fun q : List EgressEntry => restState ((s.port p).breakPending || !q.tail.isEmpty)) hqueue
  | false =>
    by_cases hlimit : e.failed + 1 < (s.port p).profile.retryLimit
    · rw [failAttempt_retried hexpired hqueue hlimit, State.port_setPort_same]
      refine ⟨rfl, rfl, rfl, rfl, fun _ _ => ⟨rfl, rfl, rfl, rfl, ?_⟩, fun _ h => absurd hlimit (Nat.not_lt.2 h), by simp⟩
      simp [LinePort.rested, LinePort.retried, LinePort.hasWork, restState]
    · rw [failAttempt_removed hexpired hqueue (Nat.not_lt.1 hlimit), State.port_setPort_same]
      exact ⟨rfl, rfl, rfl, rfl, fun _ h => absurd h hlimit, fun _ _ => ⟨rfl, headGone_setPort s rfl rfl, rfl⟩, by simp⟩

/-! ## Attempts and breaks that complete (R47, R48, R53), deadlines (R50, R51) -/

/-- Settles O22: with an own capture the entry stays for its echo, without one it leaves. -/
theorem attemptCompletes : Obligations.AttemptCompletes := by
  intro s p a e rest hlive htx hcompleted hqueue
  have hexec : exec (.attemptCompletion p) s = .next (completeAttempt p a s) := by
    refine (whenLive hlive _).trans (congrArg _ ?_)
    rcases htx with htx | htx <;> simp only [attemptCompletion, htx, hcompleted, Bool.false_eq_true, if_false]
  refine ⟨_, hexec, onlyLine_completeAttempt p a s, ?_⟩
  rw [completeAttempt, endProbation_eq]
  dsimp only
  cases hown : (s.port p).rx.holdsOwn with
  | true =>
    rw [if_pos rfl, State.port_setPort_same, State.setPort_setPort, State.port_setPort_same]
    exact ⟨rfl, rfl, rfl, rfl, rfl, fun _ => ⟨rfl, hqueue, rfl, rfl⟩, by simp⟩
  | false =>
    rw [if_neg Bool.false_ne_true, removeHead_setPort, restTransmitter_setPort, State.port_setPort_same]
    refine ⟨rfl, rfl, rfl, rfl, rfl, by simp, fun _ => ⟨?_, ?_⟩⟩
    · exact headGone_setPort s hqueue (congrArg List.tail hqueue)
    · exact congrArg (fun q : List EgressEntry => restState ((s.port p).breakPending || !q.tail.isEmpty)) hqueue

theorem workGone_eq (p : Port) (s : State) : workGone p s = s.setPort p { s.port p with
    tx := if (s.port p).tx = .waitGap then restState (s.port p).hasWork else (s.port p).tx } := by
  unfold workGone
  cases htx : (s.port p).tx with
  | waitGap =>
    rw [if_pos rfl]
    cases hwork : (s.port p).hasWork with
    | true =>
      rw [if_pos rfl]
      refine (State.setPort_port s p).symm.trans (congrArg (s.setPort p) ?_)
      exact (LinePort.withTx_self (x := s.port p) htx.symm).symm
    | false => rfl
  | idle | arbitrating _ | sending _ | breaking _ | halted =>
    refine (State.setPort_port s p).symm.trans (congrArg (s.setPort p) ?_)
    exact (LinePort.withTx_self (x := s.port p) ((if_neg TxState.noConfusion).trans htx.symm)).symm

/-- The entry that names a buffer is the only one that does (R80). -/
theorem filter_ref_ne {before after : List EgressEntry} {e : EgressEntry} (h : ((before ++ e :: after).map (·.ref)).Nodup) :
    ((before ++ e :: after).filter fun f => f.ref != e.ref) = before ++ after := by
  rw [List.map_append, List.map_cons, List.nodup_append, List.nodup_cons] at h
  obtain ⟨-, ⟨hafter, -⟩, hbefore⟩ := h
  rw [List.filter_append, List.filter_cons_of_neg (by simp)]
  congr 1 <;> refine List.filter_eq_self.2 fun f hf => bne_iff_ne.2 fun heq => ?_
  · exact hbefore _ (List.mem_map_of_mem hf) _ List.mem_cons_self heq
  · exact hafter (heq ▸ List.mem_map_of_mem hf)

/-- Settles O23: the break's end and the deadlines, each a change of its port and, for an entry that leaves, of its reference. -/
theorem breakEndAndDeadlines : Obligations.BreakEndAndDeadlines := by
  refine fun s p hlive => ⟨fun since htx => ?_, fun a hc => ⟨fun htx => ?_, fun htx => ?_⟩, fun a htx hc => ?_,
    fun e before after hqueue hnodup hnot => ?_⟩
  · refine (whenLive hlive _).trans (congrArg _ ?_)
    rw [breakEnd, htx]
    rfl
  · refine (whenLive hlive _).trans (congrArg _ ?_)
    simp only [attemptExpires, htx, hc, Bool.false_eq_true, if_false]
  · refine (whenLive hlive _).trans (congrArg _ ?_)
    simp only [attemptExpires, htx, hc, Bool.false_eq_true, if_false]
  · refine (whenLive hlive _).trans (congrArg _ ?_)
    simp only [attemptExpires, htx, hc, if_true]
  · have hwaits : ((s.port p).queue.any (fun f => f.ref == e.ref) && !beingSent (s.port p) e.ref) = true := by
      rw [(beingSent_eq_false_iff _ _).2 hnot, hqueue]
      simp
    have hfilter : ((s.port p).queue.filter fun f => f.ref != e.ref) = before ++ after := by
      rw [hqueue]
      exact filter_ref_ne (hqueue ▸ hnodup)
    have hexec : exec (.entryDeadlineExpiry p e.ref) s = .next ((s.release e.ref).setPort p
        { (s.port p).counted .dropStale with
          queue := before ++ after
          tx := if (s.port p).tx = .waitGap then restState ((s.port p).breakPending || !(before ++ after).isEmpty) else (s.port p).tx }) := by
      refine (whenLive hlive _).trans (congrArg _ ?_)
      rw [entryExpires]
      dsimp only
      rw [if_pos hwaits, hfilter, count_eq, State.setPort_setPort, State.port_setPort_same, State.release_setPort, workGone_eq,
        State.port_setPort_same, State.setPort_setPort]
      rfl
    refine ⟨_, hexec, (OnlyLine.trans (onlyLine_release p s e.ref) (onlyLine_setPort ..)), ?_⟩
    rw [State.port_setPort_same]
    exact ⟨rfl, rfl, rfl, rfl, rfl, rfl, rfl, rfl⟩

/-! ## Faults (R45, R59, R60) -/

/-- A first fault at a RUNNING port (R60). -/
def LinePort.faulted (x : LinePort) : LinePort := { x.counted .faults with mode := .recovering }

theorem takeFault_running {p : Port} {s : State} (h : (s.port p).mode = .running) : takeFault p s = s.setPort p (s.port p).faulted := by
  rw [takeFault, h, count_eq]
  dsimp only
  rw [State.setPort_setPort, State.port_setPort_same]
  rfl

theorem counter_setPort (s : State) (p : Port) (x : LinePort) (k : CounterName) : (s.setPort p x).counter p k = x.counters.read k := by
  rw [State.counter, State.port_setPort_same]

theorem read_counted_ne {x : LinePort} {j k : CounterName} (h : k ≠ j) : (x.counted j).counters.read k = x.counters.read k := by
  rw [LinePort.counted, Counters.read_raise, if_neg h]

theorem read_counted_same (x : LinePort) (k : CounterName) : (x.counted k).counters.read k = countUp (x.counters.read k) := by
  rw [LinePort.counted, Counters.read_raise, if_pos rfl]

theorem takeFault_counter {p : Port} {k : CounterName} (hfaults : k ≠ .faults) (hbroken : k ≠ .rxBroken) (hclosed : k ≠ .dropPortClosed)
    (s : State) : (takeFault p s).counter p k = s.counter p k := by
  cases hmode : (s.port p).mode with
  | running =>
    rw [takeFault_running hmode, counter_setPort]
    exact read_counted_ne hfaults
  | recovering =>
    rw [takeFault, hmode]
    dsimp only
    rw [closePort_counter hbroken hclosed, State.counter_count, if_neg hfaults]
  | isolated | off => rw [takeFault, hmode]

theorem endUncounted_counter {p : Port} {k : CounterName} (h : k ≠ .dropStale) (s : State) :
    (endUncounted p s).counter p k = s.counter p k := by
  cases hdriving : (s.port p).tx.driving with
  | false => rw [endUncounted_quiet hdriving]
  | true =>
    rcases driving_cases hdriving with ⟨since, htx⟩ | ⟨a, ha, hc⟩
    · rw [endUncounted_breaking htx, counter_setPort]
      rfl
    · rw [endUncounted_attempt ha hc, dropAttempt_eq]
      split <;> rw [counter_setPort]
      · exact read_counted_ne (x := (s.port p).unmarked) h
      · rfl

/-- What a drive fault ends, on the line as it is measured again (R45, log entry 19). -/
theorem driveFault_eq {p : Port} {s : State} (h : (s.port p).tx.driving = true) : driveFault p s
    = takeFault p (endUncounted p (s.setPort p { s.port p with line := (s.port p).line.atDriveFault s.clock })) := if_pos h

theorem endUncounted_mode_line (p : Port) (s : State) :
    ((endUncounted p s).port p).mode = (s.port p).mode ∧ ((endUncounted p s).port p).line = (s.port p).line := by
  cases hdriving : (s.port p).tx.driving with
  | false => rw [endUncounted_quiet hdriving]; exact ⟨rfl, rfl⟩
  | true =>
    rcases driving_cases hdriving with ⟨since, htx⟩ | ⟨a, ha, hc⟩
    · rw [endUncounted_breaking htx, State.port_setPort_same]
      exact ⟨rfl, rfl⟩
    · rw [endUncounted_attempt ha hc, dropAttempt_eq]
      split <;> rw [State.port_setPort_same] <;> exact ⟨rfl, rfl⟩

theorem atDriveFault_eq (line : LineView) (now : Nat) : line.atDriveFault now = { line with
    rest := if line.rest = none ∧ line.run = none then some ⟨now, 0⟩ else line.rest } := by
  obtain ⟨hidle, hrun, hsearch, hstuck, hrest⟩ := line.atDriveFault_fields now
  rw [← hrest, ← hidle, ← hrun, ← hsearch, ← hstuck]

/-- Settles O21: the fault is taken once, and what was being sent ends uncounted. -/
theorem driveFaultEndsSending : Obligations.DriveFaultEndsSending := by
  intro s p hlive hdriving
  let u : State := s.setPort p { s.port p with line := (s.port p).line.atDriveFault s.clock }
  have hu : u.port p = { s.port p with line := (s.port p).line.atDriveFault s.clock } := State.port_setPort_same ..
  have hsame : s.setPort p { s.port p with line := (s.port p).line.atDriveFault s.clock } = u := rfl
  have hfault := faultTaken_driveFault hdriving
  have hcounter {k : CounterName} (hstale : k ≠ .dropStale) (hfaults : k ≠ .faults) (hbroken : k ≠ .rxBroken)
      (hclosed : k ≠ .dropPortClosed) : (driveFault p s).counter p k = s.counter p k := by
    rw [driveFault_eq hdriving, hsame, takeFault_counter hfaults hbroken hclosed, endUncounted_counter hstale, State.counter, hu]
    rfl
  have hrun (hmode : (s.port p).mode = .running) :
      driveFault p s = (endUncounted p u).setPort p ((endUncounted p u).port p).faulted := by
    obtain ⟨hkept, -⟩ := endUncounted_mode_line p u
    rw [driveFault_eq hdriving, hsame, takeFault_running (by rw [hkept, hu]; exact hmode)]
  refine ⟨_, whenLive hlive _, onlyLine_driveFault p s, ?_, hcounter (by decide) (by decide) (by decide) (by decide),
    hcounter (by decide) (by decide) (by decide) (by decide), hcounter (by decide) (by decide) (by decide) (by decide),
    fun hmode => ?_, fun hmode => ⟨?_, ?_⟩, fun hmode since htx => ?_, fun hmode a e rest ha hqueue => ?_⟩
  · obtain ⟨-, hopen⟩ := hlive
    cases hmode : (s.port p).mode with
    | running => exact (hfault.running hmode).2
    | recovering => exact (hfault.recovering hmode).2.1
    | isolated | off => rw [hmode] at hopen; cases hopen
  · obtain ⟨hisolated, -, -, htx, -, hqueue⟩ := hfault.recovering hmode
    exact ⟨hisolated, hqueue, htx⟩
  · exact (hfault.running hmode).1
  · obtain ⟨-, hline⟩ := endUncounted_mode_line p u
    rw [hrun hmode, State.port_setPort_same, ← atDriveFault_eq]
    exact hline.trans (by rw [hu])
  · have htx' : (u.port p).tx = .breaking since := by rw [hu]; exact htx
    rw [hrun hmode, endUncounted_breaking htx', State.port_setPort_same, State.setPort_setPort, State.port_setPort_same, hu]
    exact ⟨rfl, rfl, rfl, rfl, rfl⟩
  · have hcompleted : a.completed = false := by
      rcases driving_cases hdriving with ⟨since, htx⟩ | ⟨b, hb, hc⟩
      · rw [htx] at ha
        cases ha
      · rw [ha] at hb
        obtain rfl := Option.some.inj hb
        exact hc
    have ha' : (u.port p).tx.attempt = some a := by rw [hu]; exact ha
    rw [hrun hmode, endUncounted_attempt ha' hcompleted, dropAttempt_eq, hu]
    cases hexpired : a.expired with
    | false =>
      rw [if_neg Bool.false_ne_true, State.port_setPort_same, State.setPort_setPort, State.port_setPort_same]
      refine ⟨rfl, fun _ => ⟨hqueue, ?_, rfl, rfl⟩, by simp⟩
      show restState (s.port p).hasWork = .waitGap
      rw [LinePort.hasWork, hqueue]
      simp [restState]
    | true =>
      rw [if_pos rfl, State.port_setPort_same, State.setPort_setPort, State.port_setPort_same]
      refine ⟨rfl, by simp, fun _ => ⟨?_, ?_, ?_⟩⟩
      · rw [counter_setPort]
        exact (read_counted_ne (by decide)).trans (read_counted_same ..)
      · exact (congrArg (fun v => HeadGone p e rest s v) (congrArg (fun v : State => v.setPort p _)
          (releaseHead_setPort ..))).mpr (by rw [State.setPort_setPort]; exact headGone_setPort s hqueue (congrArg List.tail hqueue))
      · exact congrArg (fun q : List EgressEntry => restState ((s.port p).breakPending || !q.tail.isEmpty)) hqueue

end Sys2Proof.Machine
end

section
/-! SUPPORT. Characters at the receiver in closed form: headers, stray characters, stored bytes, completions (R20 to R28, R48). -/

namespace Sys2Proof.Machine

/-! ## A character at a live port -/

/-- A port's receiver in another state. -/
def LinePort.withRx (x : LinePort) (rx : RxState) : LinePort := { x with rx := rx }

/-- What the whole character makes of a port once its receiver has taken it (R18, R40). -/
def LinePort.passed (x : LinePort) (line : LineView) (tx : TxState) : LinePort :=
  { x with candidate := none, ownStart := false, line := line, tx := tx }

theorem exec_character {s : State} {p : Port} {reception : Reception} {rival : Option Rival} {c : Character} (hlive : Live s p)
    (hfirst : NothingFirst s p) (hc : Reception.character (s.port p) s.clock reception = some c) :
    exec (.characterReceived p reception rival) s
      = .next (receiveCharacter p c (Reception.samples (s.port p) reception) (takeRival p rival) s) := by
  refine (whenLive hlive _).trans (congrArg _ ?_)
  rw [hc]
  exact afterMissed_nothingFirst hlive hfirst

theorem nextCharacter_congr {s t : State} (h : ∀ ref, t.telegramOf ref = s.telegramOf ref) (tx : TxState) :
    nextCharacter t tx = nextCharacter s tx := by
  cases tx with
  | sending a => simp only [nextCharacter, h]
  | idle | waitGap | arbitrating _ | breaking _ | halted => rfl

theorem nextCharacter_setPort (s : State) (p : Port) (x : LinePort) (tx : TxState) :
    nextCharacter (s.setPort p x) tx = nextCharacter s tx := nextCharacter_congr (fun ref => by cases ref <;> rfl) tx

/-- A character that leaves its port live (R18, R40). -/
theorem receiveCharacter_live {s u : State} {p : Port} {c : Character} {samples : List Level} {between : State → State} {y : LinePort}
    (hdeliver : deliverCharacter p c (startBitOf (s.port p) s.clock) between s = u.setPort p y) (hphase : u.phase = .started)
    (hopen : y.mode.isOpen = true) : receiveCharacter p c samples between s
      = u.setPort p (y.passed (lineAfterCharacter (s.port p) s.clock samples) (nextCharacter u y.tx)) := by
  rw [receiveCharacter, hdeliver, onLivePort_live (s := u.setPort p y) hphase (by rw [State.port_setPort_same]; exact hopen), State.port_setPort_same,
    State.setPort_setPort, nextCharacter_setPort]
  rfl

section Deliver
variable {s : State} {p : Port} {c : Character} {start : StartBit} {between : State → State} {r : RxRecord}

theorem deliver_header (hrx : (s.port p).rx = .search ∨ (s.port p).rx = .skip) (hmark : c.mark = true) (hframing : c.framing = false) :
    deliverCharacter p c start between s = takeHeader p c start s := by
  rcases hrx with hrx | hrx <;> simp only [deliverCharacter, hrx, hmark, hframing, Bool.false_eq_true, if_false, if_true]

/-- A character that is no header has mark bit 0 or a framing error (R20). -/
theorem stray_of_not_header (h : ¬ (c.mark = true ∧ c.framing = false)) : c.mark = false ∨ c.framing = true := by
  cases hmark : c.mark with
  | false => exact .inl rfl
  | true => exact .inr (Bool.eq_true_of_not_eq_false fun hframing => h ⟨hmark, hframing⟩)

theorem deliver_stray (hrx : (s.port p).rx = .search ∨ (s.port p).rx = .skip) (hstray : c.mark = false ∨ c.framing = true) :
    deliverCharacter p c start between s = s.setPort p ((s.port p).withRx .skip) := by
  have hsame (h : (s.port p).rx = .skip) : s = s.setPort p ((s.port p).withRx .skip) := by
    rw [LinePort.withRx, ← h]
    exact (State.setPort_port s p).symm
  rcases hrx with hrx | hrx <;> rcases hstray with h | h <;> simp only [deliverCharacter, hrx, h, Bool.false_eq_true, if_false, if_true]
  · split <;> rfl
  · rfl
  · exact (ite_self s).trans (hsame hrx)
  · exact hsame hrx

theorem deliver_store (hrx : (s.port p).rx = .filling r) (hmark : c.mark = false) (hframing : c.framing = false) :
    deliverCharacter p c start between s = storeCharacter p r c s := by
  simp only [deliverCharacter, hrx, hmark, hframing, Bool.false_eq_true, if_false]

theorem deliver_framing (hrx : (s.port p).rx = .filling r) (hframing : c.framing = true) :
    deliverCharacter p c start between s = abortReception p .rxBroken .skip s := by
  simp only [deliverCharacter, hrx, hframing, if_true]

theorem deliver_mark (hrx : (s.port p).rx = .filling r) (hmark : c.mark = true) (hframing : c.framing = false) :
    deliverCharacter p c start between s
      = onLivePort p (takeHeader p c start) (between (abortReception p .rxBroken .search s)) := by
  simp only [deliverCharacter, hrx, hmark, hframing, Bool.false_eq_true, if_false, if_true]

end Deliver

/-! ## Headers (R20, R71) -/

/-- The lowest FREE buffer is the one that is taken (R71). -/
theorem freeIndex_eq_some {s : State} {i : Fin Config.poolSize} (hfree : (s.buffer i).claim = .free)
    (hlower : ∀ j, j < i → (s.buffer j).claim ≠ .free) : s.freeIndex = some i := by
  unfold State.freeIndex
  rw [List.find?_eq_some_iff_getElem]
  refine ⟨by rw [hfree]; rfl, i, by simp, by simp, fun j hj => ?_⟩
  have := hlower ⟨j, by omega⟩ hj
  simpa using this

theorem freeIndex_eq_none {s : State} (h : ∀ i, (s.buffer i).claim ≠ .free) : s.freeIndex = none := by
  unfold State.freeIndex
  rw [List.find?_eq_none]
  intro i _
  simpa using h i

/-- The record of a header just taken (R20, R23, R57). -/
def headerTaken (i : Fin Config.poolSize) (c : Character) (x : LinePort) (start : StartBit) : RxRecord :=
  { buffer := i, position := 1, expected := none, crc := crcOf [c.data], checkHigh := none
    noise := c.noisy, own := marksOwn x start, limitFrom := start.moment }

theorem takeHeader_some {s : State} {i : Fin Config.poolSize} (h : s.freeIndex = some i) (p : Port) (c : Character) (start : StartBit) :
    takeHeader p c start s = (s.setBuffer i ⟨.filling p, ⟨c.data, 0, 0, []⟩⟩).setPort p
      ((s.port p).withRx (.filling (headerTaken i c (s.port p) start))) := by
  rw [takeHeader, h]
  rfl

theorem takeHeader_none {s : State} (h : s.freeIndex = none) (p : Port) (c : Character) (start : StartBit) :
    takeHeader p c start s = s.setPort p (((s.port p).counted .rxNoBuffer).withRx .skip) := by
  rw [takeHeader, h, count_eq]
  dsimp only
  rw [State.setPort_setPort, State.port_setPort_same]
  rfl

/-- Settles O8: the lowest FREE buffer taken, or none there. -/
theorem receiverTakesHeader : Obligations.ReceiverTakesHeader := by
  intro s p reception rival c hlive hfirst hrx hc hmark hframing
  have hexec := exec_character (rival := rival) hlive hfirst hc
  obtain ⟨hs, hopen⟩ := hlive
  have hdeliver := deliver_header (start := startBitOf (s.port p) s.clock) (between := takeRival p rival) hrx hmark hframing
  refine ⟨fun i hfree hlower => ?_, fun hnone => ?_⟩
  · rw [takeHeader_some (freeIndex_eq_some hfree hlower)] at hdeliver
    rw [receiveCharacter_live hdeliver hs hopen] at hexec
    refine ⟨_, hexec, (onlyLine_setBuffer p s i _).trans (onlyLine_setPort ..), ?_⟩
    rw [State.port_setPort_same, nextCharacter_setPort]
    refine ⟨rfl, ⟨rfl, rfl, rfl, rfl⟩, rfl, rfl, State.buffer_setBuffer_same .., fun j hj => State.buffer_setBuffer_ne _ _ hj, ?_⟩
    refine congrArg RxState.filling ?_
    unfold headerTaken marksOwn startBitOf
    cases (s.port p).candidate <;> cases (s.port p).tx.attempt <;> rfl
  · rw [takeHeader_none (freeIndex_eq_none hnone)] at hdeliver
    rw [receiveCharacter_live hdeliver hs hopen] at hexec
    refine ⟨_, hexec, ?_⟩
    rw [OnlyPort, State.port_setPort_same]
    exact ⟨rfl, ⟨rfl, rfl, rfl, rfl⟩, rfl, rfl⟩

/-- Settles O9: no header, no telegram. -/
theorem strayCharacterSkips : Obligations.StrayCharacterSkips := by
  intro s p reception rival c hlive hfirst hrx hc hstray
  have hexec := exec_character (rival := rival) hlive hfirst hc
  obtain ⟨hs, hopen⟩ := hlive
  rw [receiveCharacter_live (deliver_stray hrx hstray) hs hopen] at hexec
  refine ⟨_, hexec, ?_⟩
  rw [OnlyPort, State.port_setPort_same]
  exact ⟨rfl, ⟨rfl, rfl, rfl, rfl⟩, rfl, rfl⟩

/-! ## Bytes stored (R22) -/

/-- The record of a telegram one character further. -/
def RxRecord.further (r : RxRecord) (c : Character) : RxRecord := { r with position := r.position + 1, noise := r.noise || c.noisy }

section Store
variable {s : State} {p : Port} {c : Character} {r : RxRecord}

/-- The expected count known at the next position (R22). -/
def RxRecord.expectedAt (r : RxRecord) (c : Character) : Option Nat :=
  if r.position + 1 = 3 then some (5 + c.data.toNat % 32) else r.expected

theorem storeCharacter_eq : storeCharacter p r c s =
    if r.expectedAt c = some (r.position + 1) then completeTelegram p (r.further c) (r.checkHigh.getD 0 ++ c.data) s
    else if r.expectedAt c = some (r.position + 2) then
      s.setPort p ((s.port p).withRx (.filling { r.further c with checkHigh := some c.data }))
    else (s.setBuffer r.buffer
        { s.buffer r.buffer with telegram := storeByte (r.position + 1) c.data (s.buffer r.buffer).telegram }).setPort p
      ((s.port p).withRx (.filling { r.further c with expected := r.expectedAt c, crc := crcByte r.crc c.data })) := rfl

/-- Once the class and length byte has been stored, the expected count stays (R22). -/
theorem expectedAt_late {t : Telegram} (h : r.Faithful t) {n : Nat} (hn : r.expected = some n) : r.expectedAt c = some n := by
  obtain ⟨hlate, -⟩ := h.late hn
  rw [RxRecord.expectedAt, if_neg (by omega), hn]

theorem storeCharacter_last {t : Telegram} (h : r.Faithful t) (hlast : r.expected = some (r.position + 1)) :
    storeCharacter p r c s = completeTelegram p (r.further c) (r.checkHigh.getD 0 ++ c.data) s := by
  rw [storeCharacter_eq, if_pos (expectedAt_late h hlast)]

theorem storeCharacter_high {t : Telegram} (h : r.Faithful t) (hhigh : r.expected = some (r.position + 2)) :
    storeCharacter p r c s = s.setPort p ((s.port p).withRx (.filling { r.further c with checkHigh := some c.data })) := by
  rw [storeCharacter_eq, expectedAt_late h hhigh, if_neg (by simp), if_pos rfl]

theorem storeCharacter_byte (hlast : r.expected ≠ some (r.position + 1)) (hhigh : r.expected ≠ some (r.position + 2)) :
    storeCharacter p r c s = (s.setBuffer r.buffer
        { s.buffer r.buffer with telegram := storeByte (r.position + 1) c.data (s.buffer r.buffer).telegram }).setPort p
      ((s.port p).withRx (.filling { r.further c with expected := r.expectedAt c, crc := crcByte r.crc c.data })) := by
  have hnotLast : r.expectedAt c ≠ some (r.position + 1) := fun h => hlast (expected_of_met (by omega) h)
  have hnotHigh : r.expectedAt c ≠ some (r.position + 2) := fun h => hhigh (expected_of_met (by omega) h)
  rw [storeCharacter_eq, if_neg hnotLast, if_neg hnotHigh]

end Store

/-- Settles O10: each byte by its position, the check value's first byte held. -/
theorem fillingStoresByPosition : Obligations.FillingStoresByPosition := by
  intro s p reception rival c r hlive hfirst hrx hc hmark hframing hfaithful hnotLast before after
  have hexec := exec_character (rival := rival) hlive hfirst hc
  obtain ⟨hs, hopen⟩ := hlive
  have hdeliver := deliver_store (start := startBitOf (s.port p) s.clock) (between := takeRival p rival) hrx hmark hframing
  by_cases hhigh : r.expected = some (r.position + 2)
  · obtain ⟨hlate, -⟩ := hfaithful.late hhigh
    have hafter : after = before := by
      simp only [after]
      rw [if_neg (by omega), if_neg (by omega), if_pos hhigh]
    rw [storeCharacter_high hfaithful hhigh] at hdeliver
    rw [receiveCharacter_live hdeliver hs hopen] at hexec
    refine ⟨_, { r.further c with checkHigh := some c.data }, hexec, onlyLine_setPort p s _, ?_⟩
    rw [State.port_setPort_same, hafter]
    exact ⟨rfl, ⟨rfl, rfl, rfl, rfl⟩, rfl, rfl, fun _ _ => rfl, rfl, rfl, rfl, rfl, rfl, rfl, hfaithful.checkHigh hhigh rfl rfl rfl rfl,
      fun _ => rfl⟩
  · have hafter : after = storeByte (r.position + 1) c.data before := by
      simp only [after, storeByte, if_neg hhigh]
      split_ifs
      any_goals omega
      all_goals rfl
    rw [storeCharacter_byte hnotLast hhigh] at hdeliver
    rw [receiveCharacter_live hdeliver hs hopen] at hexec
    refine ⟨_, { r.further c with expected := r.expectedAt c, crc := crcByte r.crc c.data }, hexec,
      (onlyLine_setBuffer p s r.buffer _).trans (onlyLine_setPort ..), ?_⟩
    rw [State.port_setPort_same, hafter]
    exact ⟨rfl, ⟨rfl, rfl, rfl, rfl⟩, rfl, State.buffer_setBuffer_same .., fun j hj => State.buffer_setBuffer_ne _ _ hj, rfl, rfl, rfl,
      rfl, rfl, rfl, hfaithful.storeByte hnotLast hhigh rfl rfl rfl rfl, fun h => absurd h hhigh⟩

/-! ## Completions (R25 to R28, R48) -/

/-- A good completion or a completed transmission reported to the supervisor (R61). -/
def LinePort.reported (x : LinePort) : LinePort := { x with mode := x.mode.afterReport }

theorem endProbation_setPort (p : Port) (s : State) (x : LinePort) : endProbation p (s.setPort p x) = s.setPort p x.reported := by
  rw [endProbation_eq, State.port_setPort_same, State.setPort_setPort]
  rfl

theorem freeBuffer_setPort (s : State) (p : Port) (x : LinePort) (i : Fin Config.poolSize) :
    (s.setPort p x).freeBuffer i = (s.freeBuffer i).setPort p x := rfl

/-- A buffer WAITING at the tail of the Classification Queue (R28). -/
def State.accepted (s : State) (p : Port) (i : Fin Config.poolSize) : State :=
  { s.setBuffer i { s.buffer i with claim := .waiting p } with classQueue := s.classQueue ++ [i] }

section Complete
variable {s : State} {p : Port} {r : RxRecord} {received : Check}

theorem acceptTelegram_setPort (x : LinePort) : acceptTelegram p r (s.setPort p x) =
    if r.noise = true ∧ x.profile.noise = .drop then (s.freeBuffer r.buffer).setPort p (x.counted .rxNoisyDropped)
    else (s.accepted p r.buffer).setPort p (x.counted .rxGood) := by
  rw [acceptTelegram, State.port_setPort_same, count_setPort, count_setPort]
  rfl

theorem completeTelegram_bad (hown : r.own = false) (hbad : r.crc ≠ received) : completeTelegram p r received s
    = (s.freeBuffer r.buffer).setPort p (((s.port p).withRx .search).counted .rxChecksum) := by
  rw [completeTelegram]
  dsimp only
  rw [if_neg hbad, if_neg (Bool.eq_false_iff.1 hown)]
  exact congrArg (State.freeBuffer · r.buffer) (count_setPort p s ((s.port p).withRx .search) .rxChecksum)

theorem completeTelegram_dropped (hown : r.own = false) (hgood : r.crc = received)
    (hdropped : r.noise = true ∧ (s.port p).profile.noise = .drop) : completeTelegram p r received s
    = (s.freeBuffer r.buffer).setPort p (((s.port p).withRx .search).reported.counted .rxNoisyDropped) := by
  have hprobation := endProbation_setPort p s ((s.port p).withRx .search)
  rw [completeTelegram]
  dsimp only
  rw [if_pos hgood, if_neg (Bool.eq_false_iff.1 hown)]
  exact (congrArg (acceptTelegram p r) hprobation).trans ((acceptTelegram_setPort _).trans (if_pos hdropped))

theorem completeTelegram_accepted (hown : r.own = false) (hgood : r.crc = received)
    (haccepted : ¬ (r.noise = true ∧ (s.port p).profile.noise = .drop)) : completeTelegram p r received s
    = (s.accepted p r.buffer).setPort p (((s.port p).withRx .search).reported.counted .rxGood) := by
  have hprobation := endProbation_setPort p s ((s.port p).withRx .search)
  rw [completeTelegram]
  dsimp only
  rw [if_pos hgood, if_neg (Bool.eq_false_iff.1 hown)]
  exact (congrArg (acceptTelegram p r) hprobation).trans ((acceptTelegram_setPort _).trans (if_neg haccepted))

end Complete

theorem onlyReception_of_onlyLine {p : Port} {s t : State} (h : OnlyLine p s t) : OnlyReception p s t := by
  obtain ⟨-, -, -, hqueue, -⟩ := onlyLine_iff.1 h
  rw [OnlyReception, hqueue]
  exact h

theorem onlyReception_accepted (p : Port) (s : State) (i : Fin Config.poolSize) (y : LinePort) :
    OnlyReception p s ((s.accepted p i).setPort p y) := by
  refine onlyLine_iff.2 ⟨fun q hq => ?_, ?_⟩
  · exact State.port_setPort_ne (s.accepted p i) y hq
  · exact ⟨rfl, rfl, rfl, rfl, rfl, rfl, rfl, rfl, rfl, rfl, rfl, rfl, rfl, rfl⟩

/-- Settles O11: the check value, and then the noise policy, decide. -/
theorem ordinaryTelegramCompletes : Obligations.OrdinaryTelegramCompletes := by
  intro s p reception rival c r hlive hfirst hrx hfaithful hown hlast hc hmark hframing good dropped
  have hexec := exec_character (rival := rival) hlive hfirst hc
  obtain ⟨hs, hopen⟩ := hlive
  have hopen' : (s.port p).mode.afterReport.isOpen = true := (afterReport_isOpen _).trans hopen
  have hdeliver := deliver_store (start := startBitOf (s.port p) s.clock) (between := takeRival p rival) hrx hmark hframing
  rw [storeCharacter_last hfaithful hlast] at hdeliver
  have hfreed (y : LinePort) : OnlyReception p s ((s.freeBuffer r.buffer).setPort p y) :=
    onlyReception_of_onlyLine ((onlyLine_freeBuffer p s r.buffer).trans (onlyLine_setPort ..))
  by_cases hgood : good
  · by_cases hdropped : dropped
    · rw [completeTelegram_dropped (r := r.further c) hown hgood hdropped] at hdeliver
      rw [receiveCharacter_live hdeliver hs hopen'] at hexec
      refine ⟨_, hexec, hfreed _, ?_⟩
      rw [State.port_setPort_same]
      exact ⟨rfl, rfl, rfl, rfl, rfl, fun j hj => State.buffer_freeBuffer_ne _ hj, fun h => absurd hgood h, fun _ => rfl,
        fun _ _ => ⟨rfl, State.buffer_freeBuffer_same .., rfl⟩, fun _ h => absurd hdropped h⟩
    · rw [completeTelegram_accepted (r := r.further c) hown hgood hdropped] at hdeliver
      rw [receiveCharacter_live hdeliver hs hopen'] at hexec
      refine ⟨_, hexec, onlyReception_accepted .., ?_⟩
      rw [State.port_setPort_same]
      exact ⟨rfl, rfl, rfl, rfl, rfl, fun j hj => State.buffer_setBuffer_ne _ _ hj, fun h => absurd hgood h, fun _ => rfl,
        fun _ h => absurd h hdropped, fun _ _ => ⟨rfl, State.buffer_setBuffer_same .., rfl⟩⟩
  · rw [completeTelegram_bad (r := r.further c) hown hgood] at hdeliver
    rw [receiveCharacter_live hdeliver hs hopen] at hexec
    refine ⟨_, hexec, hfreed _, ?_⟩
    rw [State.port_setPort_same]
    exact ⟨rfl, rfl, rfl, rfl, rfl, fun j hj => State.buffer_freeBuffer_ne _ hj,
      fun _ => ⟨rfl, rfl, State.buffer_freeBuffer_same .., rfl⟩, fun h => absurd h hgood, fun h => absurd h hgood, fun h => absurd h hgood⟩

/-! ## Echoes (R48) -/

section Echo
variable {s : State} {p : Port} {x : LinePort} {a : Attempt}

theorem echoVerdict_counted (ha : x.tx.attempt = some a) (hc : a.completed = true) (k : CounterName) :
    echoVerdict p (some k) (s.setPort p x) = (releaseHead x.queue s).setPort p (x.counted k).headless.rested := by
  rw [echoVerdict, State.port_setPort_same, ha]
  dsimp only
  rw [if_pos hc, count_setPort, removeHead_setPort, restTransmitter_setPort]
  rfl

theorem echoVerdict_uncounted (ha : x.tx.attempt = some a) (hc : a.completed = true) :
    echoVerdict p none (s.setPort p x) = (releaseHead x.queue s).setPort p x.headless.rested := by
  rw [echoVerdict, State.port_setPort_same, ha]
  dsimp only
  rw [if_pos hc, removeHead_setPort, restTransmitter_setPort]

theorem echoVerdict_ignored (h : ∀ a, x.tx.attempt = some a → a.completed = false) (counted : Option CounterName) :
    echoVerdict p counted (s.setPort p x) = s.setPort p x := by
  unfold echoVerdict
  rw [State.port_setPort_same]
  cases ha : x.tx.attempt with
  | none => rfl
  | some a =>
    dsimp only
    rw [if_neg (Bool.eq_false_iff.1 (h a ha))]

theorem completeTelegram_own {r : RxRecord} (hown : r.own = true) (received : Check) : completeTelegram p r received s
    = if r.crc = received then
        echoVerdict p (some .txDone) ((s.freeBuffer r.buffer).setPort p ((s.port p).withRx .search).reported)
      else echoVerdict p (some .txCollision) ((s.freeBuffer r.buffer).setPort p ((s.port p).withRx .search)) := by
  rw [completeTelegram]
  dsimp only
  split
  · exact congrArg (fun u => echoVerdict p _ (State.freeBuffer u _)) (endProbation_setPort p s ((s.port p).withRx .search))
  · rfl

end Echo

theorem nextCharacter_restState (s : State) (work : Bool) : nextCharacter s (restState work) = restState work := by
  cases work <;> rfl

/-- The transmitter's next character leaves its attempt what it is (R40). -/
theorem nextCharacter_inProgress {s : State} {x : TxState} {a : Attempt} (ha : x.attempt = some a) (hc : a.completed = false) :
    ∃ a', (nextCharacter s x).attempt = some a' ∧ a'.entry = a.entry ∧ a'.completed = false := by
  cases x with
  | arbitrating b =>
    obtain rfl := Option.some.inj ha
    unfold nextCharacter
    dsimp only
    split <;> exact ⟨_, rfl, rfl, hc⟩
  | sending b =>
    obtain rfl := Option.some.inj ha
    unfold nextCharacter
    dsimp only
    rw [if_neg (Bool.eq_false_iff.1 hc)]
    exact ⟨_, rfl, rfl, hc⟩
  | idle | waitGap | breaking _ | halted => cases ha

/-- Settles O12: the echo's check value is the verdict on a completed attempt, and none on one in progress. -/
theorem echoSettlesAttempt : Obligations.EchoSettlesAttempt := by
  intro s p reception rival c r a e rest hlive hfirst hrx hfaithful hown hlast hc hmark hframing ha hqueue good
  have hexec := exec_character (rival := rival) hlive hfirst hc
  obtain ⟨hs, hopen⟩ := hlive
  have hdeliver := deliver_store (start := startBitOf (s.port p) s.clock) (between := takeRival p rival) hrx hmark hframing
  rw [storeCharacter_last hfaithful hlast, completeTelegram_own (r := r.further c) hown] at hdeliver
  -- The port once its receiver has the verdict, with the counter that the verdict counts.
  obtain ⟨x, k, hx, hk, hgoodMode, hbadMode, hverdict⟩ : ∃ (x : LinePort) (k : CounterName),
      x = { s.port p with rx := .search, mode := x.mode } ∧ k = (if good then .txDone else .txCollision)
        ∧ (good → x.mode = (s.port p).mode.afterReport) ∧ (¬ good → x.mode = (s.port p).mode)
        ∧ deliverCharacter p c (startBitOf (s.port p) s.clock) (takeRival p rival) s
          = echoVerdict p (some k) ((s.freeBuffer r.buffer).setPort p x) := by
    by_cases hgood : good
    · exact ⟨((s.port p).withRx .search).reported, .txDone, rfl, (if_pos hgood).symm, fun _ => rfl, fun h => absurd hgood h,
        hdeliver.trans (if_pos hgood)⟩
    · exact ⟨(s.port p).withRx .search, .txCollision, rfl, (if_neg hgood).symm, fun h => absurd h hgood, fun _ => rfl,
        hdeliver.trans (if_neg hgood)⟩
  have hopen' : x.mode.isOpen = true := by
    by_cases hgood : good
    · rw [hgoodMode hgood, afterReport_isOpen, hopen]
    · rw [hbadMode hgood, hopen]
  have hxtx : x.tx = (s.port p).tx := by rw [hx]
  have hxqueue : x.queue = e :: rest := by rw [hx]; exact hqueue
  have hxcounters : x.counters = (s.port p).counters := by rw [hx]
  have hxprofile : x.profile = (s.port p).profile := by rw [hx]
  have hxbreak : x.breakPending = (s.port p).breakPending := by rw [hx]
  have hxrx : x.rx = .search := by rw [hx]
  cases hcompleted : a.completed with
  | true =>
    rw [echoVerdict_counted (by rw [hxtx]; exact ha) hcompleted, hxqueue, releaseHead_cons] at hverdict
    have hphase : ((s.freeBuffer r.buffer).release e.ref).phase = .started := by
      obtain ⟨-, hphase, -⟩ := onlyLine_iff.1 (onlyLine_release p (s.freeBuffer r.buffer) e.ref)
      exact hphase.trans hs
    rw [receiveCharacter_live hverdict hphase hopen'] at hexec
    refine ⟨_, hexec, ((onlyLine_freeBuffer p s r.buffer).trans (onlyLine_release ..)).trans (onlyLine_setPort ..), ?_⟩
    rw [State.port_setPort_same]
    refine ⟨hxrx, hxprofile, hxbreak, hgoodMode, hbadMode, fun _ => ⟨?_, ?_, ?_⟩, by simp⟩
    · show x.counters.raise k = _
      rw [hxcounters, hk]
    · exact headGone_setPort (s.freeBuffer r.buffer) rfl (congrArg List.tail hxqueue)
    · show nextCharacter _ (restState (x.breakPending || !x.queue.tail.isEmpty)) = _
      rw [nextCharacter_restState, hxqueue, hxbreak]
      rfl
  | false =>
    rw [echoVerdict_ignored fun b hb => by rw [hxtx, ha] at hb; rw [← Option.some.inj hb]; exact hcompleted] at hverdict
    rw [receiveCharacter_live hverdict hs hopen'] at hexec
    refine ⟨_, hexec, (onlyLine_freeBuffer p s r.buffer).trans (onlyLine_setPort ..), ?_⟩
    rw [State.port_setPort_same]
    exact ⟨hxrx, hxprofile, hxbreak, hgoodMode, hbadMode, by simp, fun _ => ⟨hxcounters, hxqueue, rfl, rfl,
      nextCharacter_inProgress (by rw [hxtx]; exact ha) hcompleted⟩⟩

end Sys2Proof.Machine
end

section
/-! SUPPORT. Receptions aborted, idle gaps and breaks (R6, R10, R11, R21, R29 to R34, R39). -/

namespace Sys2Proof.Machine

/-! ## Receptions aborted (R29 to R33, R48) -/

/-- What an abort of a reception makes of the bridge: `u` with the port `y` in it. -/
structure Aborted (p : Port) (k : CounterName) (next : RxState) (r : RxRecord) (s u : State) (y : LinePort) : Prop where
  line : OnlyLine p s u
  freed : (u.buffer r.buffer).claim = .free
  rx : y.rx = next
  counters : y.counters = (s.port p).counters.raise k
  mode : y.mode = (s.port p).mode
  profile : y.profile = (s.port p).profile
  breakPending : y.breakPending = (s.port p).breakPending
  view : y.line = (s.port p).line
  ignored : r.own = false ∨ (∀ a, (s.port p).tx.attempt = some a → a.completed = false) →
    u = s.freeBuffer r.buffer ∧ y = ((s.port p).counted k).withRx next
  settled : ∀ a e rest, r.own = true → (s.port p).tx.attempt = some a → a.completed = true → (s.port p).queue = e :: rest →
    u = (s.freeBuffer r.buffer).release e.ref ∧ y.queue = rest ∧ y.tx = restState ((s.port p).breakPending || !rest.isEmpty)

theorem releaseHead_free {s : State} {i : Fin Config.poolSize} (queue : List EgressEntry) (h : (s.buffer i).claim = .free) :
    ((releaseHead queue s).buffer i).claim = .free := by
  cases queue with
  | nil => exact h
  | cons e rest => exact release_free e.ref h

theorem onlyLine_releaseHead (p : Port) (queue : List EgressEntry) (s : State) : OnlyLine p s (releaseHead queue s) := by
  cases queue with
  | nil => exact .refl p s
  | cons e rest => exact onlyLine_release p s e.ref

theorem abortReception_filling {p : Port} {k : CounterName} {next : RxState} {r : RxRecord} {s : State} (hrx : (s.port p).rx = .filling r) :
    abortReception p k next s = if r.own then echoVerdict p none ((s.freeBuffer r.buffer).setPort p (((s.port p).counted k).withRx next))
      else (s.freeBuffer r.buffer).setPort p (((s.port p).counted k).withRx next) := by
  rw [abortReception, hrx, count_eq]
  dsimp only
  rw [freeBuffer_setPort, State.setPort_setPort, State.port_setPort_same]
  rfl

theorem abortReception_other {p : Port} {k : CounterName} {next : RxState} {s : State} (hrx : (s.port p).rx.buffer = none) :
    abortReception p k next s = s := by
  unfold abortReception
  cases h : (s.port p).rx with
  | filling r =>
    rw [h] at hrx
    cases hrx
  | search | skip | deaf => rfl

/-- A reception aborted (R29 to R33): its buffer FREE, one counter, and an attempt whose echo it was settled with nothing counted. -/
theorem aborted {p : Port} {k : CounterName} {next : RxState} {r : RxRecord} {s : State} (hrx : (s.port p).rx = .filling r) :
    ∃ u y, abortReception p k next s = u.setPort p y ∧ Aborted p k next r s u y := by
  have hfree : ((s.freeBuffer r.buffer).buffer r.buffer).claim = .free := by rw [State.buffer_freeBuffer_same]
  by_cases hsettled : r.own = true ∧ ∃ a, (s.port p).tx.attempt = some a ∧ a.completed = true
  · obtain ⟨hown, a, ha, hc⟩ := hsettled
    refine ⟨releaseHead (s.port p).queue (s.freeBuffer r.buffer), (((s.port p).counted k).withRx next).headless.rested, ?_, ?_⟩
    · rw [abortReception_filling hrx, if_pos hown, echoVerdict_uncounted (x := ((s.port p).counted k).withRx next) ha hc]
      rfl
    · refine ⟨(onlyLine_freeBuffer p s r.buffer).trans (onlyLine_releaseHead ..), releaseHead_free _ hfree, rfl, rfl, rfl, rfl, rfl, rfl,
        fun h => ?_, fun b e rest _ _ _ hqueue => ⟨?_, ?_, ?_⟩⟩
      · rcases h with h | h
        · rw [hown] at h
          cases h
        · rw [h a ha] at hc
          cases hc
      · rw [hqueue]
        rfl
      · exact congrArg List.tail hqueue
      · exact congrArg (fun q : List EgressEntry => restState ((s.port p).breakPending || !q.tail.isEmpty)) hqueue
  · refine ⟨s.freeBuffer r.buffer, ((s.port p).counted k).withRx next, ?_, ?_⟩
    · rw [abortReception_filling hrx]
      split
      · next hown =>
        refine echoVerdict_ignored (fun a ha => ?_) none
        exact Bool.eq_false_iff.2 fun hc => hsettled ⟨hown, a, ha, hc⟩
      · rfl
    · exact ⟨onlyLine_freeBuffer p s r.buffer, hfree, rfl, rfl, rfl, rfl, rfl, rfl, fun _ => ⟨rfl, rfl⟩,
        fun a e rest hown ha hc _ => absurd ⟨hown, a, ha, hc⟩ hsettled⟩

theorem Aborted.phase {p : Port} {k : CounterName} {next : RxState} {r : RxRecord} {s u : State} {y : LinePort}
    (h : Aborted p k next r s u y) : u.phase = s.phase := by
  obtain ⟨-, hphase, -⟩ := onlyLine_iff.1 h.line
  exact hphase

theorem Aborted.headGone {p : Port} {k : CounterName} {next : RxState} {r : RxRecord} {s u : State} {y z : LinePort}
    (h : Aborted p k next r s u y) {a : Attempt} {e : EgressEntry} {rest : List EgressEntry} (hown : r.own = true)
    (ha : (s.port p).tx.attempt = some a) (hc : a.completed = true) (hqueue : (s.port p).queue = e :: rest) (hz : z.queue = y.queue) :
    HeadGone p e rest (s.freeBuffer r.buffer) (u.setPort p z) := by
  obtain ⟨hu, hrest, -⟩ := h.settled a e rest hown ha hc hqueue
  rw [hu]
  exact headGone_setPort (s.freeBuffer r.buffer) rfl (hz.trans hrest)

/-! ## The classes of runs (R10, R18) -/

theorem runClass_normalData {n : Nat} (h : n < 88) : runClass n = .normalData := if_pos (by omega)

theorem runClass_shortBreak {n : Nat} (h : 88 ≤ n) (h' : n < 512) : runClass n = .shortBreak := by
  rw [runClass, if_neg (by omega), if_pos (by omega)]

theorem runClass_longBreak {n : Nat} (h : 512 ≤ n) (h' : n < 2048) : runClass n = .longBreak := by
  rw [runClass, if_neg (by omega), if_neg (by omega), if_pos (by omega)]

/-- The length of an ended run is at least what its row tells. -/
theorem le_endedRun (s : State) (p : Port) (samples : Nat) : samples ≤ (s.port p).endedRun s.clock samples := by
  rw [LinePort.endedRun]
  split
  · exact le_refl _
  · rw [LinePort.runLength, le_atLeastMeasured_iff]
    exact .inl (le_refl _)

/-- The length of an ended run: what its row tells, and what has been measured where the line was known to be dominant (R10). -/
theorem le_endedRun_iff (s : State) (p : Port) (bound samples : Nat) : bound ≤ (s.port p).endedRun s.clock samples ↔
    bound ≤ samples ∨ ((s.port p).line.rest = none ∧ Reached s p bound (s.port p).line.run) := by
  rw [LinePort.endedRun]
  split
  · next h =>
    rw [or_iff_left]
    rintro ⟨hrest, -⟩
    rw [hrest] at h
    cases h
  · next h =>
    rw [LinePort.runLength, le_atLeastMeasured_iff]
    have hnone : (s.port p).line.rest = none := by
      cases hrest : (s.port p).line.rest with
      | none => rfl
      | some _ => rw [hrest] at h; exact absurd rfl h
    simp [hnone]

theorem endedRun_lt {s : State} {p : Port} {bound samples : Nat} (h : samples < bound)
    (hrun : (s.port p).line.rest ≠ none ∨ ¬ Reached s p bound (s.port p).line.run) : (s.port p).endedRun s.clock samples < bound := by
  rw [← Nat.not_le, le_endedRun_iff]
  rintro (hle | ⟨hrest, hreached⟩)
  · omega
  · rcases hrun with hrun | hrun
    · exact hrun hrest
    · exact hrun hreached

/-! ## Breaks (R11, R21, R32, R34) -/

/-- A port at the end of a break. -/
def LinePort.afterBreak (x : LinePort) (now : Nat) : LinePort :=
  { x with candidate := none, ownStart := false, line := LineView.recessiveFor now 0 }

section Breaks
variable {s : State} {p : Port}

theorem breakEnds_eq (hstuck : (s.port p).line.stuck = false) :
    breakEnds p s = abortReception p .rxBroken .skip (s.setPort p ((s.port p).afterBreak s.clock)) := by
  rw [breakEnds, if_neg (Bool.eq_false_iff.1 hstuck)]
  rfl

theorem breakEnds_listening (hstuck : (s.port p).line.stuck = false) (hrx : (s.port p).rx.buffer = none) :
    breakEnds p s = s.setPort p ((s.port p).afterBreak s.clock) := by
  rw [breakEnds_eq hstuck, abortReception_other (by rw [State.port_setPort_same]; exact hrx)]

theorem exec_shortBreak {samples : Nat} (hlive : Live s p) (hlow : 88 ≤ samples) (hhigh : samples < 512)
    (hrun : (s.port p).line.rest ≠ none ∨ ¬ Reached s p 512 (s.port p).line.run) :
    exec (.shortBreak p samples) s = .next (breakEnds p s) := by
  refine (whenLive hlive _).trans (congrArg _ ?_)
  dsimp only
  rw [runClass_shortBreak (hlow.trans (le_endedRun s p samples)) (endedRun_lt hhigh hrun)]

/-- The row of a run that is normal data only ends it (R11, log entry 12). -/
theorem exec_shortBreak_normal {samples : Nat} (hlive : Live s p) (h : (s.port p).endedRun s.clock samples < 88) :
    exec (.shortBreak p samples) s = .next (normalRunEnds p ((s.port p).endedRun s.clock samples) s) := by
  refine (whenLive hlive _).trans (congrArg _ ?_)
  dsimp only
  rw [runClass_normalData h]

theorem exec_longBreak_class {samples : Nat} (hlive : Live s p) (hlow : 512 ≤ samples) (hhigh : samples < 2048)
    (hrun : (s.port p).line.rest ≠ none ∨ ¬ Reached s p 2048 (s.port p).line.run) :
    exec (.longBreak p samples) s = .next (longBreak p s) := by
  refine (whenLive hlive _).trans (congrArg _ ?_)
  exact if_pos (runClass_longBreak (hlow.trans (le_endedRun s p samples)) (endedRun_lt hhigh hrun))

theorem longBreak_asShort (h : s.straps.maint ≠ some p ∨ s.straps.lre = false) : longBreak p s = breakEnds p s := by
  have hnot : ¬ (s.straps.maint = some p ∧ s.straps.lre = true) := by
    rintro ⟨hmaint, hlre⟩
    rcases h with h | h
    · exact h hmaint
    · rw [h] at hlre
      cases hlre
  rw [longBreak, if_neg hnot]
  split
  · next hstuck => rw [breakEnds, if_pos hstuck]
  · rfl

theorem longBreak_reset (hstuck : (s.port p).line.stuck = false) (hmaint : s.straps.maint = some p) (hlre : s.straps.lre = true) :
    longBreak p s = enterReset (.lineReset p) s := by
  rw [longBreak, if_neg (Bool.eq_false_iff.1 hstuck), if_pos ⟨hmaint, hlre⟩]

/-- A break ends a telegram in reception (R21, R32). -/
theorem breakEnds_filling {r : RxRecord} (hstuck : (s.port p).line.stuck = false) (hrx : (s.port p).rx = .filling r) :
    OnlyLine p s (breakEnds p s) ∧ ((breakEnds p s).port p).rx = .skip ∧ ((breakEnds p s).buffer r.buffer).claim = .free
      ∧ ((breakEnds p s).port p).counters = (s.port p).counters.raise .rxBroken := by
  have hport : (s.setPort p ((s.port p).afterBreak s.clock)).port p = (s.port p).afterBreak s.clock := State.port_setPort_same ..
  have hrx' : ((s.setPort p ((s.port p).afterBreak s.clock)).port p).rx = .filling r := by rw [hport]; exact hrx
  obtain ⟨u, y, heq, habort⟩ := aborted (k := .rxBroken) (next := .skip) hrx'
  refine ⟨onlyLine_breakEnds p s, ?_⟩
  rw [breakEnds_eq hstuck, heq, State.port_setPort_same]
  exact ⟨habort.rx, habort.freed, habort.counters.trans (by rw [hport]; rfl)⟩

end Breaks

/-- Settles O17: what a break does where no telegram is in reception, at the maintenance port and at another. -/
theorem breaksAtTheReceiver : Obligations.BreaksAtTheReceiver := by
  intro s p samples hlive hstuck within
  refine ⟨fun c hc hrx => ?_, fun hwithin => ?_, fun hlow hwithin hmaint hlre => ?_⟩
  · have hrx' : (s.port p).rx.buffer = none := by rcases hrx with h | h <;> rw [h] <;> rfl
    have hexec : exec c s = .next (breakEnds p s) := by
      rcases hc with ⟨rfl, hlow, hhigh, hrun⟩ | ⟨rfl, hlow, ⟨hhigh, hrun⟩, hmaint⟩
      · exact exec_shortBreak hlive hlow hhigh hrun
      · rw [exec_longBreak_class hlive hlow hhigh hrun, longBreak_asShort hmaint]
    rw [hexec, breakEnds_listening hstuck hrx']
    rfl
  · obtain ⟨hhigh, hrun⟩ := hwithin
    have hexec := exec_shortBreak_normal hlive (endedRun_lt hhigh hrun)
    have hcond : ((s.port p).candidate.isNone && !(s.port p).line.stuck && decide (1 ≤ (s.port p).endedRun s.clock samples)) = true
        ↔ (s.port p).candidate = none ∧ (1 ≤ samples ∨ ((s.port p).line.rest = none ∧ Reached s p 1 (s.port p).line.run)) := by
      rw [← le_endedRun_iff]
      simp [hstuck]
    refine ⟨fun h => hexec.trans (congrArg _ ?_), fun h => hexec.trans (congrArg _ ?_)⟩
    · exact if_pos (hcond.2 h)
    · exact if_neg fun h' => h (hcond.1 h')
  · obtain ⟨hhigh, hrun⟩ := hwithin
    refine ⟨_, exec_longBreak_class hlive hlow hhigh hrun, ?_⟩
    rw [longBreak_reset hstuck hmaint hlre]
    refine ⟨rfl, rfl, ?_, rfl, rfl, rfl⟩
    simp only [enterReset, ResetRecord.after]

/-! ## Idle gaps (R6, R31, R39) -/

/-- A port at an idle gap. -/
def LinePort.idled (x : LinePort) (now samples : Nat) : LinePort :=
  { x with candidate := none, ownStart := false, line := LineView.idleFor now samples }

section Gap
variable {s : State} {p : Port}

theorem takeMissedRun_short {samples : Nat} (h : ∀ n, RunEnded s p samples n → n < 88) : takeMissedRun p s.clock samples s = s := by
  refine takeMissedRun_none ?_
  by_contra hn
  exact hn (h _ (runEnded_missedRun (by omega)))

theorem exec_idleGap {samples : Nat} (hlive : Live s p) (hdriving : (s.port p).tx.driving = false)
    (hlength : 96 ≤ samples ∨ Reached s p 96 (s.port p).line.rest) (hrun : ∀ n, RunEnded s p samples n → n < 88) :
    exec (.idleGap ⟨p, samples⟩) s = .next (idleGap p ((s.port p).restLength s.clock samples) s) := by
  refine (whenLive hlive _).trans (congrArg _ ?_)
  have hle : 96 ≤ (s.port p).restLength s.clock samples := (le_atLeastMeasured_iff s p 96 samples _).2 hlength
  obtain ⟨hs, hopen⟩ := hlive
  dsimp only
  rw [if_pos ⟨hle, hdriving⟩, takeMissedRun_short hrun, onLivePort_live hs hopen]

/-- What begins on an idle line (R39): the pending break first, else an attempt at the head entry. -/
structure Begun (p : Port) (s : State) (x y : LinePort) : Prop where
  rx : y.rx = x.rx
  mode : y.mode = x.mode
  profile : y.profile = x.profile
  counters : y.counters = x.counters
  queue : y.queue = x.queue
  breaks : x.breakPending = true → y.tx = .breaking s.clock ∧ y.breakPending = false
  sends : x.breakPending = false → ∀ e rest, x.queue = e :: rest →
    y.tx = .arbitrating ⟨e.ref, 1, (s.telegramOf e.ref).check, false, false⟩ ∧ y.breakPending = false

theorem begun (x : LinePort) : ∃ y, beginSending p (s.setPort p x) = s.setPort p y ∧ Begun p s x y := by
  unfold beginSending
  rw [State.port_setPort_same]
  dsimp only
  cases hbreak : x.breakPending with
  | true =>
    rw [if_pos rfl, State.setPort_setPort]
    exact ⟨_, rfl, ⟨rfl, rfl, rfl, rfl, rfl, fun _ => ⟨rfl, rfl⟩, fun h => by rw [hbreak] at h; cases h⟩⟩
  | false =>
    rw [if_neg Bool.false_ne_true]
    cases hqueue : x.queue with
    | nil => exact ⟨x, rfl, ⟨rfl, rfl, rfl, rfl, rfl, (fun h => by rw [hbreak] at h; cases h), fun _ e rest h => by rw [hqueue] at h; cases h⟩⟩
    | cons e rest =>
      dsimp only
      rw [State.setPort_setPort]
      refine ⟨_, rfl, ⟨rfl, rfl, rfl, rfl, hqueue.symm, (fun h => by rw [hbreak] at h; cases h), fun _ e' rest' h => ⟨?_, rfl⟩⟩⟩
      obtain ⟨rfl, -⟩ := List.cons.inj (hqueue.symm.trans h)
      cases e.ref <;> rfl

/-- The transmitter at an idle gap (R39). -/
theorem gapAtTransmitter_cases (x : LinePort) : ∃ y, gapAtTransmitter p (s.setPort p x) = s.setPort p y
    ∧ (x.tx = .waitGap → Begun p s x y) ∧ (x.tx ≠ .waitGap → y = x)
    ∧ y.rx = x.rx ∧ y.mode = x.mode ∧ y.profile = x.profile ∧ y.counters = x.counters ∧ y.queue = x.queue := by
  by_cases hwait : x.tx = .waitGap
  · obtain ⟨y, heq, hbegun⟩ := begun (s := s) (p := p) x
    refine ⟨y, ?_, fun _ => hbegun, fun h => absurd hwait h, hbegun.rx, hbegun.mode, hbegun.profile, hbegun.counters, hbegun.queue⟩
    rw [gapAtTransmitter, State.port_setPort_same, hwait]
    exact heq
  · refine ⟨x, ?_, fun h => absurd h hwait, fun _ => rfl, rfl, rfl, rfl, rfl, rfl⟩
    unfold gapAtTransmitter
    rw [State.port_setPort_same]
    cases htx : x.tx with
    | waitGap => exact absurd htx hwait
    | idle | arbitrating _ | sending _ | breaking _ | halted => rfl

/-- The receiver at an idle gap, with no telegram in reception (R21). -/
theorem gapAtReceiver_listening {x : LinePort} (h : x.rx = .search ∨ x.rx = .skip) :
    gapAtReceiver p (s.setPort p x) = s.setPort p (x.withRx .search) := by
  unfold gapAtReceiver
  rw [State.port_setPort_same]
  rcases h with h | h <;> rw [h] <;> dsimp only
  · rw [LinePort.withRx, ← h]
  · rw [State.setPort_setPort]
    rfl

theorem gapAtReceiver_filling {x : LinePort} {r : RxRecord} (h : x.rx = .filling r) :
    gapAtReceiver p (s.setPort p x) = abortReception p .rxBroken .search (s.setPort p x) := by
  unfold gapAtReceiver
  rw [State.port_setPort_same, h]

end Gap

theorem attempt_waitGap {x : TxState} (h : x = .waitGap) : ∀ a, x.attempt = some a → a.completed = false := by
  rintro a ha
  rw [h] at ha
  cases ha

/-- A buffer freed keeps its telegram (R72). -/
theorem telegramOf_freeBuffer (s : State) (i : Fin Config.poolSize) (ref : BufferRef) : (s.freeBuffer i).telegramOf ref = s.telegramOf ref := by
  refine telegramOf_congr (s := s) (t := s.freeBuffer i) (fun j => ?_) rfl ref
  by_cases hj : j = i
  · rw [hj, State.buffer_freeBuffer_same]
  · rw [State.buffer_freeBuffer_ne _ hj]

/-- Settles O16: the receiver first, and then the transmitter. -/
theorem idleGapGrantsLine : Obligations.IdleGapGrantsLine := by
  intro s p samples hlive hdeaf
  have hcond (h : ¬ (96 ≤ (s.port p).restLength s.clock samples ∧ (s.port p).tx.driving = false)) :
      exec (.idleGap ⟨p, samples⟩) s = .next s := (whenLive hlive _).trans (congrArg _ (if_neg h))
  refine ⟨fun hshort hrest => hcond ?_, fun hdriving => hcond ?_, fun hdriving hlength hrun => ?_⟩
  · rintro ⟨hle, -⟩
    rcases (le_atLeastMeasured_iff s p 96 samples _).1 hle with h | h
    · omega
    · exact hrest h
  · rintro ⟨-, h⟩
    rw [hdriving] at h
    cases h
  have hexec := exec_idleGap hlive hdriving hlength hrun
  refine ⟨_, hexec, onlyLine_idleGap .., ?_⟩
  have hidle : idleGap p ((s.port p).restLength s.clock samples) s
      = gapAtTransmitter p (gapAtReceiver p (s.setPort p ((s.port p).idled s.clock ((s.port p).restLength s.clock samples)))) := rfl
  rw [hidle]
  generalize (s.port p).restLength s.clock samples = length
  cases hrx : (s.port p).rx with
  | deaf => exact absurd hrx hdeaf
  | search | skip =>
    rw [gapAtReceiver_listening (x := (s.port p).idled s.clock length) (by simp [LinePort.idled, hrx])]
    obtain ⟨y, heq, hbegun, hsame, hyrx, hymode, hyprofile, hycounters, hyqueue⟩ :=
      gapAtTransmitter_cases (s := s) (p := p) (((s.port p).idled s.clock length).withRx .search)
    rw [heq, OnlyPort, State.port_setPort_same]
    refine ⟨hyrx, hymode, hyprofile, fun _ => ⟨rfl, hycounters⟩, (fun r hr => by cases hr), fun _ => hyqueue, fun _ hwait => ?_,
      fun _ => hyqueue, fun hwait hbreak => (hbegun hwait).breaks hbreak, fun hwait hbreak e rest hqueue => (hbegun hwait).sends hbreak e rest hqueue⟩
    rw [hsame hwait]
    exact ⟨rfl, rfl, rfl⟩
  | filling r =>
    have hport : (s.setPort p ((s.port p).idled s.clock length)).port p = (s.port p).idled s.clock length := State.port_setPort_same ..
    rw [gapAtReceiver_filling (x := (s.port p).idled s.clock length) hrx]
    obtain ⟨u, x, haborted, habort⟩ := aborted (k := .rxBroken) (next := .search)
      (s := s.setPort p ((s.port p).idled s.clock length)) (p := p) (r := r) (by rw [hport]; exact hrx)
    rw [haborted]
    obtain ⟨hline, hfreed, hxrx, hxcounters, hxmode, hxprofile, hxbreak, hxview, hxignored, -⟩ := habort
    rw [hport] at hxcounters hxmode hxprofile hxbreak hxview hxignored
    obtain ⟨y, heq, hbegun, hsame, hyrx, hymode, hyprofile, hycounters, hyqueue⟩ := gapAtTransmitter_cases (s := u) (p := p) x
    rw [heq, State.port_setPort_same]
    have hmeets (h : r.own = false ∨ (s.port p).tx = .waitGap) :
        u = (s.freeBuffer r.buffer).setPort p ((s.port p).idled s.clock length)
          ∧ x = (((s.port p).idled s.clock length).counted .rxBroken).withRx .search :=
      hxignored (h.imp_right attempt_waitGap)
    refine ⟨hyrx.trans hxrx, hymode.trans hxmode, hyprofile.trans hxprofile, by simp, fun r' hr' => ?_, fun hown => ?_, fun hown hwait => ?_,
      fun hwait => ?_, fun hwait hbreak => ?_, fun hwait hbreak e rest hqueue => ?_⟩
    · obtain rfl := RxState.filling.inj hr'
      refine ⟨hycounters.trans hxcounters, hfreed, fun h => ?_⟩
      obtain ⟨hu, -⟩ := hmeets h
      rw [hu]
      exact ⟨rfl, fun j hj => State.buffer_freeBuffer_ne s hj⟩
    · obtain ⟨-, hx⟩ := hmeets (.inl hown)
      exact hyqueue.trans (by rw [hx]; rfl)
    · obtain ⟨-, hx⟩ := hmeets (.inl hown)
      rw [hsame (by rw [hx]; exact hwait), hx]
      exact ⟨rfl, rfl, rfl⟩
    · obtain ⟨-, hx⟩ := hmeets (.inr hwait)
      exact hyqueue.trans (by rw [hx]; rfl)
    · obtain ⟨hu, hx⟩ := hmeets (.inr hwait)
      obtain ⟨htx, hpending⟩ := (hbegun (by rw [hx]; exact hwait)).breaks (by rw [hx]; exact hbreak)
      rw [hu] at htx
      exact ⟨htx, hpending⟩
    · obtain ⟨hu, hx⟩ := hmeets (.inr hwait)
      obtain ⟨htx, hpending⟩ := (hbegun (by rw [hx]; exact hwait)).sends (by rw [hx]; exact hbreak) e rest (by rw [hx]; exact hqueue)
      have htelegram : u.telegramOf e.ref = s.telegramOf e.ref := by
        rw [hu, ← telegramOf_freeBuffer s r.buffer e.ref]
        cases e.ref <;> rfl
      rw [htelegram] at htx
      exact ⟨htx, hpending⟩

end Sys2Proof.Machine
end

section
/-! SUPPORT. Receptions that end before their telegram does: framing errors, gaps, breaks, time limits, marks out of place, the stuck line
(R29 to R33, R46, R58). -/

namespace Sys2Proof.Machine

/-! ## Telegrams abandoned (R29, R31 to R33, R48) -/

theorem onlyLine_aborted {p : Port} {k : CounterName} {next : RxState} {r : RxRecord} {s u : State} {y : LinePort}
    (h : Aborted p k next r s u y) (z : LinePort) : OnlyLine p s (u.setPort p z) := h.line.trans (onlyLine_setPort ..)

/-- A port that closes with no telegram in reception counts none (R35). -/
theorem closePort_counter_rxBroken {p : Port} {s : State} (h : (s.port p).rx.buffer = none) (mode : PortMode) :
    (closePort p mode s).counter p .rxBroken = s.counter p .rxBroken := by
  obtain ⟨u, hclose, -, -, hcounters⟩ := closePort_dropEntries p mode s
  obtain ⟨-, hother⟩ := dropEntries_counter p (s.port p).queue u
  rw [hclose, hother _ (by decide), State.counter, hcounters, dropReception_other h]
  rfl

/-- A FREE buffer stays FREE where its port closes (R73). -/
theorem closePort_free {p : Port} {s : State} {i : Fin Config.poolSize} (hrx : (s.port p).rx.buffer = none)
    (h : (s.buffer i).claim = .free) (mode : PortMode) : ((closePort p mode s).buffer i).claim = .free := by
  obtain ⟨u, hclose, -, hpool, -⟩ := closePort_dropEntries p mode s
  rw [hclose]
  refine dropEntries_free p _ ?_
  rw [buffer_of_pool hpool, dropReception_other hrx]
  exact h

/-- A fault at a port with no telegram in reception frees no buffer that it does not, and counts no RX_BROKEN (R60). -/
theorem takeFault_listening {p : Port} {s : State} (hrx : (s.port p).rx.buffer = none) :
    (takeFault p s).counter p .rxBroken = s.counter p .rxBroken
      ∧ ∀ i, (s.buffer i).claim = .free → ((takeFault p s).buffer i).claim = .free := by
  cases hmode : (s.port p).mode with
  | running =>
    rw [takeFault_running hmode, counter_setPort]
    exact ⟨read_counted_ne (by decide), fun i h => h⟩
  | recovering =>
    have hrx' : ((s.count p .faults).port p).rx.buffer = none := by rw [State.port_count_same]; exact hrx
    rw [takeFault, hmode]
    dsimp only
    rw [closePort_counter_rxBroken hrx', State.counter_count, if_neg (by decide)]
    exact ⟨rfl, fun i h => closePort_free hrx' h _⟩
  | isolated | off =>
    rw [takeFault, hmode]
    exact ⟨rfl, fun i h => h⟩

theorem faults_of_faultTaken {p : Port} {s t : State} (hopen : (s.port p).mode.isOpen = true) (h : FaultTaken p s t) :
    t.counter p .faults = countUp (s.counter p .faults) := by
  cases hmode : (s.port p).mode with
  | running => exact (h.running hmode).2
  | recovering => exact (h.recovering hmode).2.1
  | isolated | off => rw [hmode] at hopen; cases hopen

/-- The time limit: RX_TIMEOUT and one fault (R33, R57). -/
theorem timeLimit_filling {p : Port} {s : State} {r : RxRecord} (hlive : Live s p) (hrx : (s.port p).rx = .filling r) :
    ∃ t, exec (.telegramTimeLimitExpiry p) s = .next t ∧ OnlyLine p s t ∧ (t.buffer r.buffer).claim = .free
      ∧ t.counter p .rxTimeout = countUp (s.counter p .rxTimeout) ∧ t.counter p .faults = countUp (s.counter p .faults)
      ∧ t.counter p .rxBroken = s.counter p .rxBroken
      ∧ ((s.port p).mode = .running → (t.port p).mode = .recovering ∧ (t.port p).rx = .skip)
      ∧ ((s.port p).mode = .recovering → (t.port p).mode = .isolated ∧ (t.port p).rx = .deaf) := by
  obtain ⟨u, y, heq, habort⟩ := aborted (k := .rxTimeout) (next := .skip) hrx
  have ht : timeLimitExpires p s = takeFault p (u.setPort p y) := by rw [timeLimitExpires, hrx, ← heq]
  have hport : (u.setPort p y).port p = y := State.port_setPort_same ..
  have hyrx : ((u.setPort p y).port p).rx.buffer = none := by rw [hport, habort.rx]; rfl
  obtain ⟨hbroken, hfree⟩ := takeFault_listening hyrx
  have htaken := faultTaken_timeLimitExpires hrx
  refine ⟨_, whenLive hlive _, onlyLine_timeLimitExpires p s, ?_, ?_, faults_of_faultTaken hlive.2 htaken, ?_, fun hmode => ⟨?_, ?_⟩,
    fun hmode => ?_⟩
  · rw [ht]
    exact hfree _ habort.freed
  · rw [ht, takeFault_counter (by decide) (by decide) (by decide), counter_setPort, habort.counters, Counters.read_raise, if_pos rfl]
    rfl
  · rw [ht, hbroken, counter_setPort, habort.counters, Counters.read_raise, if_neg (by decide)]
    rfl
  · exact (htaken.running hmode).1
  · rw [ht, takeFault_running (by rw [hport, habort.mode]; exact hmode), State.port_setPort_same, hport]
    exact habort.rx
  · obtain ⟨hisolated, -, hdeaf, -⟩ := htaken.recovering hmode
    exact ⟨hisolated, hdeaf⟩

/-- Settles O13: each of the five ends aborts the reception, and what comes behind it does not take the buffer back. -/
theorem fillingIsAbandoned : Obligations.FillingIsAbandoned := by
  intro s p r hlive hrx
  refine ⟨fun reception rival c hfirst hc hframing => ?_, fun samples hdriving hlength hrun => ?_, fun samples hlow hhigh hstuck hrun => ?_,
    fun samples hlow hhigh hstuck hrun hmaint => ?_, timeLimit_filling hlive hrx⟩
  · have hexec := exec_character (rival := rival) hlive hfirst hc
    obtain ⟨hs, hopen⟩ := hlive
    obtain ⟨u, y, heq, habort⟩ := aborted (k := .rxBroken) (next := .skip) hrx
    have hdeliver := (deliver_framing (start := startBitOf (s.port p) s.clock) (between := takeRival p rival) hrx hframing).trans heq
    rw [receiveCharacter_live hdeliver (habort.phase.trans hs) (by rw [habort.mode]; exact hopen)] at hexec
    refine ⟨_, hexec, onlyLine_aborted habort _, ?_⟩
    rw [State.port_setPort_same]
    refine ⟨habort.rx, habort.freed, habort.counters, fun a e rest hown ha hcompleted hqueue => ⟨?_, ?_⟩⟩
    · exact habort.headGone hown ha hcompleted hqueue rfl
    · obtain ⟨-, -, htx⟩ := habort.settled a e rest hown ha hcompleted hqueue
      exact (congrArg (nextCharacter u) htx).trans (nextCharacter_restState ..)
  · have hport : (s.setPort p ((s.port p).idled s.clock ((s.port p).restLength s.clock samples))).port p
        = (s.port p).idled s.clock ((s.port p).restLength s.clock samples) := State.port_setPort_same ..
    obtain ⟨u, x, heq, habort⟩ := aborted (k := .rxBroken) (next := .search) (p := p) (r := r)
      (s := s.setPort p ((s.port p).idled s.clock ((s.port p).restLength s.clock samples))) (by rw [hport]; exact hrx)
    obtain ⟨y, hgap, -, -, hyrx, -, -, hycounters, -⟩ := gapAtTransmitter_cases (s := u) (p := p) x
    have hidle : idleGap p ((s.port p).restLength s.clock samples) s = u.setPort p y := by
      rw [← hgap, ← heq]
      exact congrArg (gapAtTransmitter p) (gapAtReceiver_filling hrx)
    have hline := onlyLine_idleGap p ((s.port p).restLength s.clock samples) s
    rw [hidle] at hline
    refine ⟨_, (exec_idleGap hlive hdriving hlength hrun).trans (congrArg _ hidle), hline, ?_⟩
    rw [State.port_setPort_same]
    exact ⟨hyrx.trans habort.rx, habort.freed, hycounters.trans (habort.counters.trans (by rw [hport]; rfl))⟩
  · exact ⟨_, exec_shortBreak hlive hlow hhigh hrun, breakEnds_filling hstuck hrx⟩
  · refine ⟨_, exec_longBreak_class hlive hlow hhigh hrun, ?_⟩
    rw [longBreak_asShort hmaint]
    exact breakEnds_filling hstuck hrx

/-! ## Marks out of place (R30) -/

theorem exists_freeIndex {s : State} {i : Fin Config.poolSize} (h : (s.buffer i).claim = .free) : ∃ j, s.freeIndex = some j ∧ j ≤ i := by
  cases hfree : s.freeIndex with
  | none =>
    have hnot := List.find?_eq_none.1 hfree i (List.mem_finRange i)
    rw [h] at hnot
    exact absurd rfl hnot
  | some j =>
    refine ⟨j, rfl, ?_⟩
    obtain ⟨-, n, hn, hj, hlower⟩ := List.find?_eq_some_iff_getElem.1 hfree
    rw [List.getElem_finRange] at hj
    by_contra hlt
    have hi : i.val < n := by
      rw [← hj] at hlt
      exact Nat.lt_of_not_le hlt
    have hnot := hlower i.val hi
    rw [List.getElem_finRange] at hnot
    simp [h] at hnot

theorem takeHeader_setPort {s : State} {p : Port} {x : LinePort} {i : Fin Config.poolSize} (h : s.freeIndex = some i) (c : Character)
    (start : StartBit) : takeHeader p c start (s.setPort p x) = (s.setBuffer i ⟨.filling p, ⟨c.data, 0, 0, []⟩⟩).setPort p
      (x.withRx (.filling (headerTaken i c x start))) := by
  rw [takeHeader_some (s := s.setPort p x) h, State.port_setPort_same, State.setBuffer_setPort, State.setPort_setPort]

/-- What comes first at a port is told of that port and the moment. -/
theorem nothingFirst_congr {s t : State} {p : Port} (hport : t.port p = s.port p) (hclock : t.clock = s.clock) (h : NothingFirst s p) :
    NothingFirst t p := by
  have hbefore (n : Nat) : State.port { t with clock := n } p = State.port { s with clock := n } p := hport
  simp only [NothingFirst, GapMissed, ReachedBefore, RunEndedBefore, RunEnded, Reached, hbefore, hclock] at h ⊢
  exact h

/-- A rival header is received in full between the two requests (R30). -/
theorem takeRival_live {s : State} {p q : Port} {d : Character} (hq : q ≠ p) (hlive : Live s q) (hfirst : NothingFirst s q) :
    takeRival p (some ⟨q, d⟩) s = receiveCharacter q d (nominalSamples d) id s := by
  have hs := hlive.1
  rw [takeRival]
  dsimp only
  rw [if_neg hq, onLivePort_live hs hlive.2, afterMissed_nothingFirst hlive hfirst]

/-- Settles O14: the abandoned buffer is FREE when the new header asks, unless a rival's header took it in between. -/
theorem markOutOfPlaceRestarts : Obligations.MarkOutOfPlaceRestarts := by
  intro s p r reception c hlive hfirst hrx hc hmark hframing
  obtain ⟨u, y, heq, habort⟩ := aborted (k := .rxBroken) (next := .search) hrx
  have hs := hlive.1
  have hopen := hlive.2
  have hphase : u.phase = .started := habort.phase.trans hs
  have hyopen : y.mode.isOpen = true := by rw [habort.mode]; exact hopen
  refine ⟨?_, fun q d hq hliveq hfirstq hrxq hmarkd hframingd hown hnone => ?_⟩
  · have hexec := exec_character (rival := none) hlive hfirst hc
    obtain ⟨j, hj, hle⟩ := exists_freeIndex habort.freed
    have hdeliver : deliverCharacter p c (startBitOf (s.port p) s.clock) (takeRival p none) s
        = (u.setBuffer j ⟨.filling p, ⟨c.data, 0, 0, []⟩⟩).setPort p
          (y.withRx (.filling (headerTaken j c y (startBitOf (s.port p) s.clock)))) := by
      rw [deliver_mark hrx hmark hframing, heq]
      refine (onLivePort_live (s := u.setPort p y) hphase (by rw [State.port_setPort_same]; exact hyopen)).trans ?_
      exact takeHeader_setPort hj c _
    rw [receiveCharacter_live hdeliver hphase hyopen] at hexec
    refine ⟨_, headerTaken j c y (startBitOf (s.port p) s.clock), hexec,
      (habort.line.trans (onlyLine_setBuffer ..)).trans (onlyLine_setPort ..), ?_⟩
    rw [State.port_setPort_same]
    refine ⟨habort.counters, rfl, hle, rfl, rfl, rfl, rfl, fun start hstart => ?_, fun hcandidate => ?_, State.buffer_setBuffer_same ..⟩
    · simp only [headerTaken, startBitOf, hstart]
    · simp only [headerTaken, startBitOf, hcandidate]
  · obtain ⟨rfl, rfl⟩ := habort.ignored (.inl hown)
    have hexec := exec_character (rival := some ⟨q, d⟩) hlive hfirst hc
    -- The abandoned buffer is the only FREE one, so the rival takes it.
    have hothers (j : Fin Config.poolSize) (hj : j ≠ r.buffer) : ((s.freeBuffer r.buffer).buffer j).claim ≠ .free := by
      rw [State.buffer_freeBuffer_ne _ hj]
      exact hnone j
    have honly : (s.freeBuffer r.buffer).freeIndex = some r.buffer :=
      freeIndex_eq_some habort.freed fun j hj => hothers j hj.ne
    let v : State := (s.freeBuffer r.buffer).setPort p (((s.port p).counted .rxBroken).withRx .search)
    have hvq : v.port q = s.port q := State.port_setPort_ne _ _ hq
    have hliveq' : Live v q := ⟨hs, by rw [hvq]; exact hliveq.2⟩
    have hfirstq' : NothingFirst v q := nothingFirst_congr hvq rfl hfirstq
    have hdeliverq : deliverCharacter q d (startBitOf (v.port q) v.clock) id v
        = (v.setBuffer r.buffer ⟨.filling q, ⟨d.data, 0, 0, []⟩⟩).setPort q
          ((v.port q).withRx (.filling (headerTaken r.buffer d (v.port q) (startBitOf (v.port q) v.clock)))) := by
      rw [deliver_header (by rw [hvq]; exact hrxq) hmarkd hframingd]
      exact takeHeader_some (s := v) honly q d _
    obtain ⟨z, hzrx, hrival⟩ : ∃ z : LinePort,
        z.rx = .filling (headerTaken r.buffer d (v.port q) (startBitOf (v.port q) v.clock))
          ∧ takeRival p (some ⟨q, d⟩) v = (v.setBuffer r.buffer ⟨.filling q, ⟨d.data, 0, 0, []⟩⟩).setPort q z :=
      ⟨_, rfl, (takeRival_live hq hliveq' hfirstq').trans (receiveCharacter_live hdeliverq hs hliveq'.2)⟩
    let w : State := (v.setBuffer r.buffer ⟨.filling q, ⟨d.data, 0, 0, []⟩⟩).setPort q z
    have hwp : w.port p = ((s.port p).counted .rxBroken).withRx .search :=
      (State.port_setPort_ne _ _ hq.symm).trans (State.port_setPort_same ..)
    have hwtaken : w.buffer r.buffer = ⟨.filling q, ⟨d.data, 0, 0, []⟩⟩ := State.buffer_setBuffer_same ..
    have hwnone : w.freeIndex = none := freeIndex_eq_none fun j => by
      by_cases hj : j = r.buffer
      · rw [hj, hwtaken]
        exact Claim.noConfusion
      · rw [show w.buffer j = (s.freeBuffer r.buffer).buffer j from State.buffer_setBuffer_ne _ _ hj]
        exact hothers j hj
    have hdeliver : deliverCharacter p c (startBitOf (s.port p) s.clock) (takeRival p (some ⟨q, d⟩)) s
        = w.setPort p ((((s.port p).counted .rxBroken).withRx .search).counted .rxNoBuffer |>.withRx .skip) := by
      rw [deliver_mark hrx hmark hframing, heq]
      refine (congrArg (onLivePort p _) hrival).trans ?_
      refine (onLivePort_live (s := w) hs (by rw [hwp]; exact hopen)).trans ?_
      rw [takeHeader_none hwnone, hwp]
    rw [receiveCharacter_live hdeliver hs hopen] at hexec
    refine ⟨_, headerTaken r.buffer d (v.port q) (startBitOf (v.port q) v.clock), hexec, ?_⟩
    rw [State.port_setPort_same, State.port_setPort_ne _ _ hq]
    refine ⟨rfl, rfl, ?_, rfl, hwtaken⟩
    rw [← hzrx]
    exact congrArg LinePort.rx (State.port_setPort_same (v.setBuffer r.buffer ⟨.filling q, ⟨d.data, 0, 0, []⟩⟩) q z)

/-! ## The stuck line (R10, R32, R46, R58) -/

/-- A port whose line is declared stuck. -/
def LinePort.stuckFor (x : LinePort) (now samples : Nat) : LinePort :=
  { x with candidate := none, ownStart := false, line := { LineView.dominantFor now samples with stuck := true } }

theorem stuckLine_blocksFirst (p : Port) (samples : Nat) (s : State) :
    stuckLine p .blocksFirst samples s = takeFault p (stuckToBlocks p (s.setPort p ((s.port p).stuckFor s.clock samples))) := rfl

theorem stuckLine_faultFirst (p : Port) (samples : Nat) (s : State) : stuckLine p .faultFirst samples s
    = onOpenPort p (stuckToBlocks p) (takeFault p (s.setPort p ((s.port p).stuckFor s.clock samples))) := rfl

section Ends
variable {s : State} {p : Port}

theorem endUncounted_driving (p : Port) (s : State) : ((endUncounted p s).port p).tx.driving = false := by
  have hrest (x : LinePort) : x.rested.tx.driving = false := by
    show (restState x.hasWork).driving = false
    cases x.hasWork <;> rfl
  cases hdriving : (s.port p).tx.driving with
  | false => rw [endUncounted_quiet hdriving, hdriving]
  | true =>
    rcases driving_cases hdriving with ⟨since, htx⟩ | ⟨a, ha, hc⟩
    · rw [endUncounted_breaking htx, State.port_setPort_same, hrest]
    · rw [endUncounted_attempt ha hc, dropAttempt_eq]
      split <;> rw [State.port_setPort_same, hrest]

theorem unmarked_listening {x : RxState} (h : x.buffer = none) : x.unmarked = x := by
  cases x with
  | filling r => cases h
  | search | skip | deaf => rfl

theorem endUncounted_rx (h : (s.port p).rx.buffer = none) : ((endUncounted p s).port p).rx = (s.port p).rx := by
  cases hdriving : (s.port p).tx.driving with
  | false => rw [endUncounted_quiet hdriving]
  | true =>
    rcases driving_cases hdriving with ⟨since, htx⟩ | ⟨a, ha, hc⟩
    · rw [endUncounted_breaking htx, State.port_setPort_same]
      rfl
    · rw [endUncounted_attempt ha hc, dropAttempt_eq]
      split <;> rw [State.port_setPort_same] <;> exact unmarked_listening h

theorem endUncounted_free {i : Fin Config.poolSize} (h : (s.buffer i).claim = .free) : ((endUncounted p s).buffer i).claim = .free := by
  cases hdriving : (s.port p).tx.driving with
  | false => rw [endUncounted_quiet hdriving]; exact h
  | true =>
    rcases driving_cases hdriving with ⟨since, htx⟩ | ⟨a, ha, hc⟩
    · rw [endUncounted_breaking htx]
      exact h
    · rw [endUncounted_attempt ha hc, dropAttempt_eq]
      split
      · exact releaseHead_free _ h
      · exact h

/-! ### A first fault before or after -/

theorem raise_comm (v : Counters) {j k : CounterName} (h : j ≠ k) : (v.raise j).raise k = (v.raise k).raise j := by
  have hplace : (j.place : Nat) ≠ k.place := by
    revert h
    cases j <;> cases k <;> decide
  simp [Counters.raise, Vector.getElem_set_ne, hplace, hplace.symm, Vector.set_comm _ _ hplace]

theorem faulted_counted {k : CounterName} (h : k ≠ .faults) (x : LinePort) : x.faulted.counted k = (x.counted k).faulted := by
  simp only [LinePort.faulted, LinePort.counted, raise_comm _ h]

/-- What the stuck line does at the receiver does not depend on whether a first fault was taken before (R58). -/
theorem abortReception_faulted (next : RxState) (s : State) (x : LinePort) :
    ∃ (u : State) (y : LinePort), abortReception p .rxBroken next (s.setPort p x) = u.setPort p y
      ∧ abortReception p .rxBroken next (s.setPort p x.faulted) = u.setPort p y.faulted := by
  cases hrx : x.rx with
  | filling r =>
    have hleft := abortReception_filling (k := .rxBroken) (next := next) (s := s.setPort p x) (p := p) (r := r)
      (by rw [State.port_setPort_same]; exact hrx)
    have hright := abortReception_filling (k := .rxBroken) (next := next) (s := s.setPort p x.faulted) (p := p) (r := r)
      (by rw [State.port_setPort_same]; exact hrx)
    simp only [State.port_setPort_same, freeBuffer_setPort, State.setPort_setPort, faulted_counted (k := .rxBroken) (by decide)] at hleft hright
    rw [hleft, hright]
    split
    · by_cases hsettled : ∃ a, x.tx.attempt = some a ∧ a.completed = true
      · obtain ⟨a, ha, hc⟩ := hsettled
        rw [echoVerdict_uncounted (x := (x.counted .rxBroken).withRx next) ha hc,
          echoVerdict_uncounted (x := (x.counted .rxBroken).faulted.withRx next) ha hc]
        exact ⟨_, _, rfl, rfl⟩
      · have hopen : ∀ a, x.tx.attempt = some a → a.completed = false := fun a ha =>
          Bool.eq_false_iff.2 fun hc => hsettled ⟨a, ha, hc⟩
        rw [echoVerdict_ignored (x := (x.counted .rxBroken).withRx next) hopen,
          echoVerdict_ignored (x := (x.counted .rxBroken).faulted.withRx next) hopen]
        exact ⟨_, _, rfl, rfl⟩
    · exact ⟨_, _, rfl, rfl⟩
  | search | skip | deaf =>
    refine ⟨s, x, abortReception_other ?_, abortReception_other ?_⟩ <;> rw [State.port_setPort_same]
    · rw [hrx]; rfl
    · show x.rx.buffer = none
      rw [hrx]; rfl

theorem endUncounted_faulted (s : State) (x : LinePort) : ∃ (u : State) (y : LinePort), endUncounted p (s.setPort p x) = u.setPort p y
    ∧ endUncounted p (s.setPort p x.faulted) = u.setPort p y.faulted := by
  have hport : (s.setPort p x).port p = x := State.port_setPort_same ..
  have hport' : (s.setPort p x.faulted).port p = x.faulted := State.port_setPort_same ..
  cases hdriving : x.tx.driving with
  | false => exact ⟨s, x, endUncounted_quiet (by rw [hport]; exact hdriving), endUncounted_quiet (by rw [hport']; exact hdriving)⟩
  | true =>
    rcases driving_cases hdriving with ⟨since, htx⟩ | ⟨a, ha, hc⟩
    · refine ⟨s, x.rested, ?_, ?_⟩
      · rw [endUncounted_breaking (by rw [hport]; exact htx), hport, State.setPort_setPort]
      · rw [endUncounted_breaking (by rw [hport']; exact htx), hport', State.setPort_setPort]
        rfl
    · rw [endUncounted_attempt (by rw [hport]; exact ha) hc, endUncounted_attempt (by rw [hport']; exact ha) hc, dropAttempt_eq, dropAttempt_eq,
        hport, hport']
      split
      · refine ⟨releaseHead x.queue s, (x.unmarked.counted .dropStale).headless.rested, ?_, ?_⟩
        · rw [releaseHead_setPort, State.setPort_setPort]
        · have hcounted : x.faulted.unmarked.counted .dropStale = (x.unmarked.counted .dropStale).faulted :=
            faulted_counted (by decide) x.unmarked
          rw [hcounted, releaseHead_setPort, State.setPort_setPort]
          rfl
      · refine ⟨s, x.unmarked.rested, ?_, ?_⟩ <;> rw [State.setPort_setPort]
        rfl

/-- At a RUNNING port the two orders come to the same (R58). -/
theorem stuckLine_order (hmode : (s.port p).mode = .running) (order other : StuckOrder) (samples : Nat) :
    stuckLine p other samples s = stuckLine p order samples s := by
  have hsame : stuckLine p .faultFirst samples s = stuckLine p .blocksFirst samples s := by
    have hport : (s.setPort p ((s.port p).stuckFor s.clock samples)).port p = (s.port p).stuckFor s.clock samples := State.port_setPort_same ..
    obtain ⟨u, y, habort, habort'⟩ := abortReception_faulted (p := p) .skip s ((s.port p).stuckFor s.clock samples)
    obtain ⟨v, z, hend, hend'⟩ := endUncounted_faulted (p := p) u y
    have hblocks : stuckToBlocks p (s.setPort p ((s.port p).stuckFor s.clock samples)) = v.setPort p z := by
      rw [stuckToBlocks, habort, hend]
    have hblocks' : stuckToBlocks p (s.setPort p ((s.port p).stuckFor s.clock samples).faulted) = v.setPort p z.faulted := by
      rw [stuckToBlocks, habort', hend']
    have hz : z.mode = .running := by
      have hkept := (sameSupervision_stuckToBlocks p (s.setPort p ((s.port p).stuckFor s.clock samples))).1
      rw [hblocks, State.port_setPort_same, hport] at hkept
      exact hkept.trans hmode
    rw [stuckLine_blocksFirst, hblocks, takeFault_running (by rw [State.port_setPort_same]; exact hz), State.port_setPort_same,
      State.setPort_setPort, stuckLine_faultFirst, takeFault_running (by rw [hport]; exact hmode), hport, State.setPort_setPort,
      onOpenPort_open (by rw [State.port_setPort_same]; rfl), hblocks']
  cases order <;> cases other
  · rfl
  · exact hsame
  · exact hsame.symm
  · rfl

/-! ### What the blocks make of it -/

/-- The buffer of a telegram in reception freed, if there is one (R32). -/
def freedBy (rx : RxState) (s : State) : State :=
  match rx.buffer with
  | some i => s.freeBuffer i
  | none => s

/-- A port whose reception, if there is one, is aborted (R32). -/
def LinePort.abandoned (x : LinePort) (k : CounterName) (next : RxState) : LinePort :=
  match x.rx with
  | .filling _ => (x.counted k).withRx next
  | .search => x
  | .skip => x
  | .deaf => x

theorem abandoned_filling {x : LinePort} {r : RxRecord} (h : x.rx = .filling r) (k : CounterName) (next : RxState) :
    x.abandoned k next = (x.counted k).withRx next := by
  rw [LinePort.abandoned, h]

theorem abandoned_listening {x : LinePort} (h : x.rx.buffer = none) (k : CounterName) (next : RxState) : x.abandoned k next = x := by
  unfold LinePort.abandoned
  cases hrx : x.rx with
  | filling r => rw [hrx] at h; cases h
  | search | skip | deaf => rfl

theorem abortReception_incomplete {x : LinePort} (k : CounterName) (next : RxState)
    (h : ∀ a, x.tx.attempt = some a → a.completed = false) (s : State) :
    abortReception p k next (s.setPort p x) = (freedBy x.rx s).setPort p (x.abandoned k next) := by
  have hport : (s.setPort p x).port p = x := State.port_setPort_same ..
  cases hrx : x.rx with
  | filling r =>
    rw [abortReception_filling (r := r) (by rw [hport]; exact hrx), hport, freeBuffer_setPort, State.setPort_setPort, abandoned_filling hrx]
    split
    · exact echoVerdict_ignored (x := (x.counted k).withRx next) h none
    · rfl
  | search | skip | deaf =>
    have hnone : x.rx.buffer = none := by rw [hrx]; rfl
    rw [abortReception_other (by rw [hport]; exact hnone), abandoned_listening hnone]
    rfl

theorem abandoned_keeps (x : LinePort) (k : CounterName) (next : RxState) : (x.abandoned k next).tx = x.tx
    ∧ (x.abandoned k next).queue = x.queue ∧ (x.abandoned k next).breakPending = x.breakPending
    ∧ ∀ j, j ≠ k → (x.abandoned k next).counters.read j = x.counters.read j := by
  unfold LinePort.abandoned
  cases x.rx with
  | filling r => exact ⟨rfl, rfl, rfl, fun j hj => read_counted_ne hj⟩
  | search | skip | deaf => exact ⟨rfl, rfl, rfl, fun _ _ => rfl⟩

theorem freedBy_mgmt (rx : RxState) (s : State) : (freedBy rx s).mgmt = s.mgmt := by
  unfold freedBy
  cases rx.buffer <;> rfl

/-- The receiver's answer to a stuck line (R32). -/
theorem abortReception_stuck (p : Port) (s : State) :
    ((abortReception p .rxBroken .skip s).port p).rx.buffer = none
      ∧ (∀ r, (s.port p).rx = .filling r → ((abortReception p .rxBroken .skip s).port p).rx = .skip
        ∧ ((abortReception p .rxBroken .skip s).buffer r.buffer).claim = .free
        ∧ (abortReception p .rxBroken .skip s).counter p .rxBroken = countUp (s.counter p .rxBroken))
      ∧ ((s.port p).rx.buffer = none → abortReception p .rxBroken .skip s = s)
      ∧ ∀ k, k ≠ .rxBroken → (abortReception p .rxBroken .skip s).counter p k = s.counter p k := by
  cases hrx : (s.port p).rx with
  | filling r =>
    obtain ⟨u, y, heq, habort⟩ := aborted (k := .rxBroken) (next := .skip) hrx
    have hread k : (u.setPort p y).counter p k = ((s.port p).counted .rxBroken).counters.read k := by
      rw [counter_setPort, habort.counters]
      rfl
    rw [heq, State.port_setPort_same]
    refine ⟨by rw [habort.rx]; rfl, fun r' hr' => ?_, (fun h => by cases h), fun k hk => (hread k).trans (read_counted_ne hk)⟩
    obtain rfl := RxState.filling.inj hr'
    exact ⟨habort.rx, habort.freed, (hread _).trans (read_counted_same ..)⟩
  | search | skip | deaf =>
    have hnone : (s.port p).rx.buffer = none := by rw [hrx]; rfl
    rw [abortReception_other hnone]
    exact ⟨hnone, (fun r h => by cases h), fun _ => rfl, fun _ _ => rfl⟩

theorem closePort_filling {r : RxRecord} (hopen : (s.port p).mode.isOpen = true) (hrx : (s.port p).rx = .filling r) (mode : PortMode) :
    ((closePort p mode s).buffer r.buffer).claim = .free
      ∧ (closePort p mode s).counter p .rxBroken = countUp (s.counter p .rxBroken) := by
  obtain ⟨-, -, hclose⟩ := referencesAreReleased
  obtain ⟨-, -, -, -, -, -, -, -, -, -, -, -, hfilling, -⟩ := hclose s p mode hopen
  exact hfilling r hrx

end Ends

/-- What a stuck line does with the telegram in reception, at a RUNNING port and at a RECOVERING one (R32, R58). -/
theorem stuckLine_reception {s : State} {p : Port} (hopen : (s.port p).mode.isOpen = true) (order : StuckOrder) (samples : Nat) :
    (∀ r, (s.port p).rx = .filling r → ((stuckLine p order samples s).buffer r.buffer).claim = .free
        ∧ (stuckLine p order samples s).counter p .rxBroken = countUp (s.counter p .rxBroken))
      ∧ ((s.port p).rx.buffer = none → (stuckLine p order samples s).counter p .rxBroken = s.counter p .rxBroken)
      ∧ ∀ k, k ≠ .faults → k ≠ .rxBroken → k ≠ .dropPortClosed → k ≠ .dropStale →
        (stuckLine p order samples s).counter p k = s.counter p k := by
  let u : State := s.setPort p ((s.port p).stuckFor s.clock samples)
  have hport : u.port p = (s.port p).stuckFor s.clock samples := State.port_setPort_same ..
  have hcounter k : u.counter p k = s.counter p k := by
    rw [State.counter, hport]
    rfl
  have hblocks : (∀ r, (s.port p).rx = .filling r → ((stuckLine p .blocksFirst samples s).buffer r.buffer).claim = .free
        ∧ (stuckLine p .blocksFirst samples s).counter p .rxBroken = countUp (s.counter p .rxBroken))
      ∧ ((s.port p).rx.buffer = none → (stuckLine p .blocksFirst samples s).counter p .rxBroken = s.counter p .rxBroken)
      ∧ ∀ k, k ≠ .faults → k ≠ .rxBroken → k ≠ .dropPortClosed → k ≠ .dropStale →
        (stuckLine p .blocksFirst samples s).counter p k = s.counter p k := by
    obtain ⟨hnone, hfilling, hlistening, hothers⟩ := abortReception_stuck p u
    have hrx : ((stuckToBlocks p u).port p).rx.buffer = none := by rw [stuckToBlocks, endUncounted_rx hnone, hnone]
    obtain ⟨hbroken, hfree⟩ := takeFault_listening hrx
    rw [stuckLine_blocksFirst]
    refine ⟨fun r hr => ?_, fun h => ?_, fun k hfaults hbroken' hclosed hstale => ?_⟩
    · obtain ⟨-, hfreed, hcount⟩ := hfilling r (by rw [hport]; exact hr)
      exact ⟨hfree _ (endUncounted_free hfreed),
        hbroken.trans ((endUncounted_counter (by decide) _).trans (hcount.trans (congrArg countUp (hcounter _))))⟩
    · refine hbroken.trans ((endUncounted_counter (by decide) _).trans ?_)
      rw [hlistening (by rw [hport]; exact h), hcounter]
    · rw [takeFault_counter hfaults hbroken' hclosed]
      exact (endUncounted_counter hstale _).trans ((hothers k hbroken').trans (hcounter k))
  cases order with
  | blocksFirst => exact hblocks
  | faultFirst =>
    cases hmode : (s.port p).mode with
    | running => rw [stuckLine_order hmode .blocksFirst]; exact hblocks
    | recovering =>
      have hfault : stuckLine p .faultFirst samples s = closePort p .isolated (u.count p .faults) := by
        have htake : takeFault p u = closePort p .isolated (u.count p .faults) := by
          rw [takeFault, hport, show ((s.port p).stuckFor s.clock samples).mode = .recovering from hmode]
        obtain ⟨hclosed, -⟩ := closePort_port p .isolated (u.count p .faults)
        rw [stuckLine_faultFirst]
        refine (congrArg (onOpenPort p _) htake).trans (onOpenPort_closed ?_)
        rw [hclosed]
        rfl
      have hrx : ((u.count p .faults).port p).rx = (s.port p).rx := by
        rw [State.port_count_same, hport]
        rfl
      have hmode' : ((u.count p .faults).port p).mode.isOpen = true := by
        rw [State.port_count_same, hport]
        exact hopen
      have hcount k (hk : k ≠ .faults) : (u.count p .faults).counter p k = s.counter p k := by
        rw [State.counter_count, if_neg hk, hcounter]
      rw [hfault]
      refine ⟨fun r hr => ?_, fun h => ?_, fun k hfaults hbroken hclosed _ => ?_⟩
      · obtain ⟨hfreed, hbroken⟩ := closePort_filling hmode' (hrx.trans hr) .isolated
        exact ⟨hfreed, hbroken.trans (congrArg countUp (hcount _ (by decide)))⟩
      · rw [closePort_counter_rxBroken (by rw [hrx]; exact h), hcount _ (by decide)]
      · rw [closePort_counter hbroken hclosed, hcount k hfaults]
    | isolated | off => rw [hmode] at hopen; cases hopen

/-- Settles O19: one fault, in either order of its deliveries. -/
theorem stuckLineIsOneFault : Obligations.StuckLineIsOneFault := by
  intro s p order samples hlive stuck
  obtain ⟨hs, hopen⟩ := hlive
  have hclass : runClass ((s.port p).runLength s.clock samples) = .stuck ↔ stuck :=
    (runClass_eq_stuck_iff _).trans (le_atLeastMeasured_iff s p 2048 samples _)
  refine ⟨fun h => (whenLive ⟨hs, hopen⟩ _).trans (congrArg _ (if_neg ?_)), fun hstuck hreached => ?_⟩
  · rintro ⟨hline, hlength⟩
    rcases h with h | h
    · rw [h] at hline
      cases hline
    · exact h (hclass.1 hlength)
  have hexec (o : StuckOrder) : exec (.stuckLine ⟨p, samples⟩ o) s
      = .next (stuckLine p o ((s.port p).runLength s.clock samples) s) :=
    (exec_stuckLine_declares o hs hreached hstuck).trans (congrArg _ (onOpenPort_open hopen))
  generalize (s.port p).runLength s.clock samples = length at hexec
  have htaken := faultTaken_stuckLine p order length s
  obtain ⟨hfilling, hlistening, hcounter⟩ := stuckLine_reception hopen order length
  refine ⟨_, hexec order, onlyLine_stuckLine .., faults_of_faultTaken hopen htaken, hcounter _ (by decide) (by decide) (by decide) (by decide),
    hcounter _ (by decide) (by decide) (by decide) (by decide), hcounter _ (by decide) (by decide) (by decide) (by decide),
    hcounter _ (by decide) (by decide) (by decide) (by decide), hfilling, fun h => ?_, fun hmode => ?_, fun hmode => ?_⟩
  · exact hlistening (by rcases h with h | h <;> rw [h] <;> rfl)
  · let u : State := s.setPort p ((s.port p).stuckFor s.clock length)
    have hport : u.port p = (s.port p).stuckFor s.clock length := State.port_setPort_same ..
    obtain ⟨hnone, hskips, hlistens, -⟩ := abortReception_stuck p u
    have hkept := (sameSupervision_stuckToBlocks p u).1
    have ht : stuckLine p order length s = (stuckToBlocks p u).setPort p ((stuckToBlocks p u).port p).faulted := by
      rw [stuckLine_order hmode .blocksFirst, stuckLine_blocksFirst]
      exact takeFault_running (hkept.trans (by rw [hport]; exact hmode))
    have hrx : ((stuckToBlocks p u).port p).rx = ((abortReception p .rxBroken .skip u).port p).rx := endUncounted_rx hnone
    obtain ⟨hytx, hyqueue, hybreak, hycounter⟩ := abandoned_keeps ((s.port p).stuckFor s.clock length) .rxBroken .skip
    obtain ⟨-, hview⟩ := endUncounted_mode_line p (abortReception p .rxBroken .skip u)
    refine ⟨(htaken.running hmode).1, ?_, ?_, fun o => (hexec o).trans (congrArg _ (stuckLine_order hmode order o length)), fun h => ?_,
      fun r hr => ?_, fun since htx => ?_, fun a e rest ha hc hqueue => ?_⟩
    · rw [ht, State.port_setPort_same]
      exact endUncounted_driving ..
    · rw [ht, State.port_setPort_same]
      refine (congrArg LineView.stuck hview).trans ?_
      cases hrx' : (s.port p).rx with
      | filling r =>
        obtain ⟨v, y, heq, habort⟩ := aborted (k := .rxBroken) (next := .skip) (s := u) (p := p) (r := r) (by rw [hport]; exact hrx')
        rw [heq, State.port_setPort_same, habort.view, hport]
        rfl
      | search | skip | deaf =>
        rw [hlistens (by rw [hport]; show (s.port p).rx.buffer = none; rw [hrx']; rfl), hport]
        rfl
    · rw [ht, State.port_setPort_same]
      refine hrx.trans ?_
      rw [hlistens (by rw [hport]; show (s.port p).rx.buffer = none; rcases h with h | h <;> rw [h] <;> rfl), hport]
      rfl
    · rw [ht, State.port_setPort_same]
      exact hrx.trans (hskips r (by rw [hport]; exact hr)).1
    · have htx' : (((s.port p).stuckFor s.clock length).abandoned .rxBroken .skip).tx = .breaking since := hytx.trans htx
      have hopenAttempt : ∀ a, ((s.port p).stuckFor s.clock length).tx.attempt = some a → a.completed = false := fun a ha => by
        rw [show ((s.port p).stuckFor s.clock length).tx = .breaking since from htx] at ha
        cases ha
      rw [ht, stuckToBlocks, abortReception_incomplete .rxBroken .skip hopenAttempt,
        endUncounted_breaking (by rw [State.port_setPort_same]; exact htx'), State.port_setPort_same, State.port_setPort_same,
        State.port_setPort_same]
      exact ⟨hyqueue, congrArg restState (by rw [LinePort.hasWork, hyqueue, hybreak]; rfl)⟩
    · intro freed
      have hopenAttempt : ∀ b, ((s.port p).stuckFor s.clock length).tx.attempt = some b → b.completed = false := fun b hb => by
        obtain rfl := Option.some.inj (ha.symm.trans hb)
        exact hc
      have ha' : (((s.port p).stuckFor s.clock length).abandoned .rxBroken .skip).tx.attempt = some a := (congrArg _ hytx).trans ha
      have hread : (((s.port p).stuckFor s.clock length).abandoned .rxBroken .skip).counters.read .dropStale = s.counter p .dropStale :=
        hycounter _ (by decide)
      have hqueue' : (((s.port p).stuckFor s.clock length).abandoned .rxBroken .skip).queue = e :: rest := hyqueue.trans hqueue
      have hpending : (((s.port p).stuckFor s.clock length).abandoned .rxBroken .skip).breakPending = (s.port p).breakPending := hybreak
      have hfreed : freedBy ((s.port p).stuckFor s.clock length).rx s = freed := rfl
      have hmgmt : freed.mgmt = s.mgmt := freedBy_mgmt ..
      rw [ht, stuckToBlocks, abortReception_incomplete .rxBroken .skip hopenAttempt, hfreed,
        endUncounted_attempt (by rw [State.port_setPort_same]; exact ha') hc, dropAttempt_eq, State.port_setPort_same]
      generalize ((s.port p).stuckFor s.clock length).abandoned .rxBroken .skip = y at hread hqueue' hpending
      cases hexpired : a.expired with
      | false =>
        rw [if_neg Bool.false_ne_true, State.setPort_setPort, State.port_setPort_same, State.setPort_setPort, State.port_setPort_same]
        refine ⟨fun _ => ⟨hqueue', ?_, rfl, hmgmt, ?_⟩, by simp⟩
        · show restState y.hasWork = .waitGap
          rw [LinePort.hasWork, hqueue']
          simp [restState]
        · rw [counter_setPort, ← hread]
          exact read_counted_ne (x := y.unmarked.rested) (by decide)
      | true =>
        rw [if_pos rfl, releaseHead_setPort, State.setPort_setPort, State.port_setPort_same, State.setPort_setPort, State.port_setPort_same]
        refine ⟨by simp, fun _ => ⟨?_, headGone_setPort freed hqueue' (congrArg List.tail hqueue'), ?_⟩⟩
        · rw [counter_setPort, ← hread]
          exact (read_counted_ne (x := (y.unmarked.counted .dropStale).headless.rested) (by decide)).trans
            (read_counted_same y.unmarked .dropStale)
        · show restState (y.breakPending || !y.queue.tail.isEmpty) = _
          rw [hqueue', hpending]
          rfl
  · obtain ⟨hisolated, -, hdeaf, hhalted, -, hempty⟩ := htaken.recovering hmode
    exact ⟨hisolated, hdeaf, hhalted, hempty⟩

end Sys2Proof.Machine
end

section
/-! SUPPORT. Counters that never fall (R84): what each operation makes of the counters of every port. -/

namespace Sys2Proof.Machine

/-- No counter has fallen, unless the bridge is in reset (R84, R142). -/
structure Grows (s t : State) : Prop where
  kept : t.phase = .started → s.phase = .started ∧ ∀ p k, (s.counter p k).toNat ≤ (t.counter p k).toNat

theorem Grows.refl (s : State) : Grows s s := ⟨fun hs => ⟨hs, fun _ _ => le_refl _⟩⟩

theorem Grows.trans {s t u : State} (h : Grows s t) (k : Grows t u) : Grows s u := ⟨fun hu => by
  obtain ⟨ht, htu⟩ := k.kept hu
  obtain ⟨hs, hst⟩ := h.kept ht
  exact ⟨hs, fun p c => le_trans (hst p c) (htu p c)⟩⟩

/-- What comes last, and what comes before it. -/
theorem Grows.after {s t u : State} (k : Grows t u) (h : Grows s t) : Grows s u := h.trans k

/-- What leaves every port's counters as they were. -/
theorem grows_of_ports {s t : State} (hphase : t.phase = s.phase) (hports : ∀ p, (t.port p).counters = (s.port p).counters) : Grows s t :=
  ⟨fun ht => ⟨hphase ▸ ht, fun p k => by rw [State.counter, State.counter, hports p]⟩⟩

theorem grows_of_same_ports {s t : State} (hphase : t.phase = s.phase) (hports : t.ports = s.ports) : Grows s t :=
  grows_of_ports hphase fun p => by rw [State.port, State.port, hports]

theorem grows_setPort {s : State} {p : Port} {x : LinePort}
    (h : ∀ k, ((s.port p).counters.read k).toNat ≤ (x.counters.read k).toNat) : Grows s (s.setPort p x) :=
  ⟨fun hs => ⟨hs, fun q k => by
    by_cases hq : q = p
    · rw [hq, counter_setPort]
      exact h k
    · rw [State.counter, State.counter, State.port_setPort_ne _ _ hq]⟩⟩

/-- A port whose counters are as they were. -/
theorem grows_setPort_same {s : State} {p : Port} {x : LinePort} (h : x.counters = (s.port p).counters := by rfl) :
    Grows s (s.setPort p x) := grows_setPort fun k => by rw [h]

theorem grows_count (s : State) (p : Port) (k : CounterName) : Grows s (s.count p k) := grows_setPort fun j => by
  rw [Counters.read_raise]
  split
  · next h =>
    rw [h]
    exact le_countUp _
  · exact le_refl _

theorem grows_setBuffer (s : State) (i : Fin Config.poolSize) (b : Buffer) : Grows s (s.setBuffer i b) := grows_of_ports rfl fun _ => rfl

theorem grows_freeBuffer (s : State) (i : Fin Config.poolSize) : Grows s (s.freeBuffer i) := grows_setBuffer ..

theorem grows_release (s : State) (ref : BufferRef) : Grows s (s.release ref) := by
  obtain ⟨-, hphase, -⟩ := onlyLine_iff.1 (onlyLine_release .a s ref)
  exact grows_of_ports hphase fun p => by rw [State.release_port]

theorem Grows.onLivePort {s t : State} {p : Port} {f : State → State} (h : Grows s t) (hf : ∀ u, Grows u (f u)) :
    Grows s (onLivePort p f t) := by
  unfold Machine.onLivePort ifStarted onOpenPort
  split
  · split
    · exact h.trans (hf t)
    · exact h
  · exact h

theorem grows_onOpenPort {p : Port} {f : State → State} {s : State} (hf : Grows s (f s)) : Grows s (onOpenPort p f s) := by
  unfold Machine.onOpenPort
  split
  · exact hf
  · exact .refl s

/-! ## The transmitter -/

section Transmitter
variable (p : Port) (s : State)

theorem grows_restTransmitter : Grows s (restTransmitter p s) := grows_setPort_same

theorem grows_clearOwnMark : Grows s (clearOwnMark p s) := by
  rw [clearOwnMark_eq]
  exact grows_setPort_same

theorem grows_removeHead : Grows s (removeHead p s) := by
  unfold removeHead
  split
  · exact .refl s
  · exact .after (grows_release ..) grows_setPort_same

theorem grows_removeStale : Grows s (removeStale p s) := .after (grows_removeHead ..) (grows_count ..)

theorem grows_retryHead : Grows s (retryHead p s) := by
  unfold retryHead
  split
  · exact .refl s
  · dsimp only
    split
    · exact .after (grows_removeHead ..) (.after (grows_count ..) grows_setPort_same)
    · exact grows_setPort_same

theorem grows_echoVerdict (counted : Option CounterName) : Grows s (echoVerdict p counted s) := by
  unfold echoVerdict
  split
  · split
    · refine Grows.trans ?_ (grows_restTransmitter ..)
      refine Grows.trans ?_ (grows_removeHead ..)
      split
      · exact grows_count ..
      · exact .refl s
    · exact .refl s
  · exact .refl s

theorem grows_failAttempt (counted : CounterName) (a : Attempt) : Grows s (failAttempt p counted a s) := by
  unfold failAttempt
  refine .after (grows_restTransmitter ..) (.trans (.after (grows_clearOwnMark p _) (grows_count s p counted)) ?_)
  split
  · exact grows_removeStale ..
  · exact grows_retryHead ..

theorem grows_dropAttempt (a : Attempt) : Grows s (dropAttempt p a s) := by
  unfold dropAttempt
  refine .after (grows_restTransmitter ..) (.trans (grows_clearOwnMark p s) ?_)
  split
  · exact grows_removeStale ..
  · exact .refl _

theorem grows_endUncounted : Grows s (endUncounted p s) := by
  unfold endUncounted
  split
  iterate 2
    · split
      · exact .refl s
      · exact grows_dropAttempt ..
  · exact grows_restTransmitter ..
  all_goals exact .refl s

theorem grows_beginSending : Grows s (beginSending p s) := by
  unfold beginSending
  dsimp only
  split
  · exact grows_setPort_same
  · split
    · exact .refl s
    · exact grows_setPort_same

theorem grows_workAppears : Grows s (workAppears p s) := by
  unfold workAppears
  split
  · split
    · exact grows_beginSending ..
    · exact grows_setPort_same
  all_goals exact .refl s

theorem grows_workGone : Grows s (workGone p s) := by
  rw [workGone_eq]
  exact grows_setPort_same

theorem grows_appendEntry (ref : BufferRef) : Grows s (appendEntry p ref s) :=
  .after (grows_workAppears ..) grows_setPort_same

theorem grows_endProbation : Grows s (endProbation p s) := by
  rw [endProbation_eq]
  exact grows_setPort_same

theorem grows_arbitrationLost : Grows s (arbitrationLost p s) := by
  unfold arbitrationLost
  split
  · split
    · exact .refl s
    · exact grows_failAttempt ..
  all_goals exact .refl s

theorem grows_collide : Grows s (collide p s) := by
  unfold collide
  split
  iterate 2
    · split
      · exact .refl s
      · exact grows_failAttempt ..
  all_goals exact .refl s

theorem grows_completeAttempt (a : Attempt) : Grows s (completeAttempt p a s) := by
  unfold completeAttempt
  refine (grows_endProbation p s).trans ?_
  dsimp only
  split
  · exact grows_setPort_same
  · exact .after (grows_restTransmitter ..) (grows_removeHead ..)

theorem grows_attemptCompletion : Grows s (attemptCompletion p s) := by
  unfold attemptCompletion
  split
  iterate 2
    · split
      · exact .refl s
      · exact grows_completeAttempt ..
  all_goals exact .refl s

theorem grows_breakEnd : Grows s (breakEnd p s) := by
  unfold breakEnd
  split
  · exact grows_restTransmitter ..
  all_goals exact .refl s

theorem grows_entryExpires (ref : BufferRef) : Grows s (entryExpires p ref s) := by
  unfold entryExpires
  dsimp only
  split
  · exact .after (grows_workGone ..) (.after (grows_release ..) (.after grows_setPort_same (grows_count ..)))
  · exact .refl s

theorem grows_attemptExpires : Grows s (attemptExpires p s) := by
  unfold attemptExpires
  split
  iterate 2
    · split
      · exact .refl s
      · exact grows_setPort_same
  all_goals exact .refl s

end Transmitter

/-! ## Ports and faults -/

section Ports
variable (p : Port) (s : State)

theorem grows_dropEntries (entries : List EgressEntry) : Grows s (dropEntries p entries s) := by
  induction entries generalizing s with
  | nil => exact .refl s
  | cons e rest ih => exact .after (ih _) (.after (grows_release ..) (grows_count ..))

theorem grows_closePort (mode : PortMode) : Grows s (closePort p mode s) := by
  rw [closePort_eq, flush_eq_dropEntries]
  refine Grows.trans ?_ (grows_dropEntries ..)
  refine Grows.trans ?_ grows_setPort_same
  refine Grows.trans ?_ grows_setPort_same
  unfold dropReception
  split
  · exact .after (grows_freeBuffer ..) (grows_count ..)
  all_goals exact .refl s

theorem grows_openPort (mode : PortMode) : Grows s (openPort p mode s) := grows_setPort_same

theorem grows_takeFault : Grows s (takeFault p s) := by
  unfold takeFault
  split
  · exact .after grows_setPort_same (grows_count ..)
  · exact .after (grows_closePort ..) (grows_count ..)
  all_goals exact .refl s

theorem grows_driveFault : Grows s (driveFault p s) := by
  unfold driveFault
  split
  · exact .after (grows_takeFault ..) (.after (grows_endUncounted ..) grows_setPort_same)
  · exact .refl s

theorem grows_enterReset (cause : Cause) : Grows s (enterReset cause s) := ⟨fun h => by cases h⟩

end Ports

/-! ## The receiver -/

section Receiver
variable (p : Port) (s : State)

theorem grows_abortReception (counted : CounterName) (next : RxState) : Grows s (abortReception p counted next s) := by
  unfold abortReception
  split
  · dsimp only
    split
    · exact .after (grows_echoVerdict ..) (.after grows_setPort_same (.after (grows_freeBuffer ..) (grows_count ..)))
    · exact .after grows_setPort_same (.after (grows_freeBuffer ..) (grows_count ..))
  all_goals exact .refl s

theorem grows_takeHeader (c : Character) (start : StartBit) : Grows s (takeHeader p c start s) := by
  unfold takeHeader
  split
  · exact .after grows_setPort_same (grows_count ..)
  · exact .after grows_setPort_same (grows_setBuffer ..)

theorem grows_acceptTelegram (r : RxRecord) : Grows s (acceptTelegram p r s) := by
  unfold acceptTelegram
  split
  · exact .after (grows_freeBuffer ..) (grows_count ..)
  · exact .after (grows_of_ports (s := s.count p .rxGood) rfl fun _ => rfl) (grows_count ..)

theorem grows_completeTelegram (r : RxRecord) (received : Check) : Grows s (completeTelegram p r received s) := by
  have hlistens : Grows s (s.setPort p { s.port p with rx := .search }) := grows_setPort_same
  unfold completeTelegram
  refine hlistens.trans ?_
  dsimp only
  split
  · split
    · exact .after (grows_echoVerdict ..) (.after (grows_freeBuffer ..) (grows_endProbation ..))
    · exact .after (grows_acceptTelegram ..) (grows_endProbation ..)
  · split
    · exact .after (grows_echoVerdict ..) (grows_freeBuffer ..)
    · exact .after (grows_freeBuffer ..) (grows_count ..)

theorem grows_storeCharacter (r : RxRecord) (c : Character) : Grows s (storeCharacter p r c s) := by
  rw [storeCharacter_eq]
  split
  · exact grows_completeTelegram ..
  split
  · exact grows_setPort_same
  · exact .after grows_setPort_same (grows_setBuffer ..)

theorem grows_deliverCharacter (c : Character) (start : StartBit) {between : State → State} (hbetween : ∀ u, Grows u (between u)) :
    Grows s (deliverCharacter p c start between s) := by
  unfold deliverCharacter
  split
  · split
    · exact grows_setPort_same
    split
    · exact grows_takeHeader ..
    · exact grows_setPort_same
  · split
    · exact .refl s
    split
    · exact grows_takeHeader ..
    · exact .refl s
  · split
    · exact grows_abortReception ..
    split
    · exact (Grows.after (hbetween _) (grows_abortReception ..)).onLivePort fun u => grows_takeHeader ..
    · exact grows_storeCharacter ..
  · exact .refl s

theorem grows_receiveCharacter (c : Character) (samples : List Level) {between : State → State} (hbetween : ∀ u, Grows u (between u)) :
    Grows s (receiveCharacter p c samples between s) :=
  (grows_deliverCharacter p s c _ hbetween).onLivePort fun _ => grows_setPort_same

theorem grows_idleGap (samples : Nat) : Grows s (idleGap p samples s) := by
  have hreceiver (u : State) : Grows u (gapAtReceiver p u) := by
    unfold gapAtReceiver
    split
    · exact grows_abortReception ..
    · exact grows_setPort_same
    all_goals exact .refl u
  have htransmitter (u : State) : Grows u (gapAtTransmitter p u) := by
    unfold gapAtTransmitter
    split
    · exact grows_beginSending ..
    all_goals exact .refl u
  exact .after (htransmitter _) (.after (hreceiver _) grows_setPort_same)

theorem grows_breakEnds : Grows s (breakEnds p s) := by
  unfold breakEnds
  split
  · exact .refl s
  · exact .after (grows_abortReception ..) grows_setPort_same

theorem grows_normalRunEnds (samples : Nat) : Grows s (normalRunEnds p samples s) := by
  unfold normalRunEnds
  dsimp only
  split
  · exact grows_setPort_same
  · exact .refl s

theorem grows_longBreak : Grows s (longBreak p s) := by
  unfold longBreak
  split
  · exact .refl s
  split
  · exact grows_enterReset ..
  · exact grows_breakEnds ..

theorem grows_stuckLine (order : StuckOrder) (samples : Nat) : Grows s (stuckLine p order samples s) := by
  have hblocks (u : State) : Grows u (stuckToBlocks p u) := .after (grows_endUncounted ..) (grows_abortReception ..)
  cases order with
  | blocksFirst => exact .after (grows_takeFault ..) (.after (hblocks _) grows_setPort_same)
  | faultFirst => exact .after (grows_onOpenPort (hblocks _)) (.after (grows_takeFault ..) grows_setPort_same)

theorem grows_takeMissedRun (upTo recessives : Nat) : Grows s (takeMissedRun p upTo recessives s) := by
  unfold takeMissedRun
  dsimp only
  split
  · exact .refl s
  · exact grows_breakEnds ..
  · exact grows_longBreak ..
  · exact grows_stuckLine ..

theorem grows_afterMissed {row : State → State} (recessives rest : Nat) (hrow : ∀ u, Grows u (row u)) :
    Grows s (afterMissed p recessives rest row s) := by
  refine (grows_takeMissedRun p s _ _).onLivePort fun u => Grows.trans ?_ (hrow _)
  unfold takeMissedGap
  dsimp only
  split
  · exact grows_idleGap ..
  · exact .refl u

theorem grows_takeRival (rival : Option Rival) : Grows s (takeRival p rival s) := by
  unfold takeRival
  split
  · split
    · exact .refl s
    · exact (Grows.refl s).onLivePort fun u => grows_afterMissed _ _ _ _ fun v => grows_receiveCharacter _ _ _ _ .refl
  · exact .refl s

theorem grows_timeLimitExpires : Grows s (timeLimitExpires p s) := by
  unfold timeLimitExpires
  split
  · exact .after (grows_takeFault ..) (grows_abortReception ..)
  all_goals exact .refl s

theorem grows_stuckRunEnd : Grows s (stuckRunEnd p s) := by
  unfold stuckRunEnd
  split
  · exact grows_setPort_same
  · exact .refl s

end Receiver

/-! ## Management commands and classification -/

theorem grows_placeReply (p : Port) (reply : Telegram) (s : State) : Grows s (placeReply p reply s) := by
  unfold placeReply
  split
  · exact .after (grows_appendEntry ..) (grows_of_ports rfl fun _ => rfl)
  · exact grows_count ..

theorem grows_performPortControl (ingress : Port) (port action : Byte) (s : State) : Grows s (performPortControl ingress port action s).state := by
  unfold performPortControl
  split
  · next p act _ _ =>
    cases act with
    | restore =>
      show Grows s (restorePort ingress p s).2
      unfold restorePort
      split
      · split
        · exact .refl s
        · exact grows_openPort ..
      all_goals exact .refl s
    | disable =>
      show Grows s (disablePort p s).2
      unfold disablePort
      split
      iterate 2 · exact grows_closePort ..
      · exact grows_setPort_same
      · exact .refl s
    | enable =>
      show Grows s (enablePort p s).2
      unfold enablePort
      split
      · exact grows_openPort ..
      all_goals exact .refl s
  · exact .refl s

/-- Every command but CLEAR COUNTERS lets no counter fall (R84, R86). -/
theorem grows_performCommand (ingress : Port) {m : MgmtCommand} (hclear : ∀ port, m ≠ .clearCounters port) (s : State) :
    Grows s (performCommand ingress m s).state := by
  cases m with
  | status | readEntry slot | bad code => exact .refl s
  | readPortCounters port group =>
    show Grows s (performReadPortCounters port group s).state
    unfold performReadPortCounters
    split
    · exact .refl s
    · split <;> exact .refl s
  | clearCounters port => exact absurd rfl (hclear port)
  | stage target image | execute operation echo | abortStage | clearStoreFlags | raiseProtection segment | restart | unlock code =>
    exact grows_of_ports rfl fun _ => rfl
  | portControl port action => exact grows_performPortControl ..
  | sendBreak port =>
    show Grows s (performSendBreak port s).state
    unfold performSendBreak
    split
    · exact .refl s
    · show Grows s (requestBreak _ s).2
      unfold requestBreak
      split
      · exact .after (grows_workAppears ..) grows_setPort_same
      · exact .refl s

theorem grows_takeCommand (ingress : Port) (source : Byte) {m : MgmtCommand} (hclear : ∀ port, m ≠ .clearCounters port) (s : State) :
    Grows s (takeCommand ingress source m s) := by
  unfold takeCommand
  split
  · dsimp only
    rcases examineCommand_cases ingress m s with h | h <;> rw [h]
    · exact .after (grows_placeReply ..) (grows_performCommand ingress hclear s)
    · exact grows_placeReply ..
  · exact grows_count ..

theorem grows_enqueueOn (i : Fin Config.poolSize) (s : State) (p : Port) : Grows s (enqueueOn i s p) := by
  unfold enqueueOn
  split
  · refine Grows.trans ?_ (grows_appendEntry ..)
    split
    · exact grows_setBuffer ..
    all_goals exact .refl s
  · exact grows_count ..

theorem grows_enqueueAll (i : Fin Config.poolSize) : ∀ (ports : List Port) (s : State), Grows s (ports.foldl (enqueueOn i) s)
  | [], s => .refl s
  | p :: rest, s => (grows_enqueueOn i s p).trans (grows_enqueueAll i rest _)

theorem grows_enqueue (i : Fin Config.poolSize) (ingress : Port) (t : Telegram) (set : PortSet) (s : State) :
    Grows s (enqueue i ingress t set s) := by
  unfold enqueue
  have hall : Grows s (set.ports.foldl (enqueueOn i) (s.setBuffer i ⟨.held ingress 0, t⟩)) :=
    .after (grows_enqueueAll i set.ports _) (grows_setBuffer ..)
  dsimp only
  split
  · exact .after (grows_freeBuffer ..) hall
  · exact hall

theorem grows_applyDecision (i : Fin Config.poolSize) (ingress : Port) (t : Telegram) (d : Decision) (s : State) :
    Grows s (applyDecision i ingress t d s) := by
  unfold applyDecision
  have hhit : Grows s (raiseHit d.entry s) := by
    rw [raiseHit_eq]
    exact grows_of_ports rfl fun _ => rfl
  refine hhit.trans ?_
  dsimp only
  split
  · exact .after (grows_freeBuffer ..) (grows_count ..)
  split
  · exact .after (grows_freeBuffer ..) (grows_count ..)
  · exact grows_enqueue ..

theorem grows_routeTelegram (i : Fin Config.poolSize) (ingress : Port) (t : Telegram) (s : State) : Grows s (routeTelegram i ingress t s) := by
  unfold routeTelegram
  split
  · exact grows_applyDecision ..
  · refine Grows.trans ?_ (grows_applyDecision ..)
    split
    · exact grows_count ..
    · exact .refl s

theorem grows_classify {s : State} (hclear : ∀ i rest port, s.classQueue = i :: rest → isCommand s (s.buffer i).telegram = true →
    decodePayload ((s.buffer i).telegram.payload.take (s.buffer i).telegram.length) ≠ .clearCounters port) : Grows s (classify s) := by
  unfold classify
  split
  · exact .refl s
  · next i rest hqueue =>
    have htaken : Grows s { s with classQueue := rest } := grows_of_ports rfl fun _ => rfl
    split
    · next ingress hclaim =>
      refine htaken.trans ?_
      unfold classifyBuffer
      dsimp only
      split
      · next hcommand => exact .after (grows_takeCommand _ _ (fun port => hclear i rest port hqueue hcommand) _) (grows_freeBuffer ..)
      · exact grows_routeTelegram ..
    all_goals exact htaken

/-! ## Every row -/

theorem grows_segmentErased (g : Segment) (next : Option Running) (s : State) : Grows s ((segmentErased g s).setRunning next) := by
  rw [segmentErased_setRunning]
  exact grows_of_same_ports rfl rfl

theorem grows_whenStarted {f : State → State} {s t : State} (hf : Grows s (f s)) (h : whenStarted f s = .next t) : Grows s t := by
  cases hs : s.phase with
  | started =>
    rw [whenStarted_started hs] at h
    cases h
    exact hf
  | inReset =>
    rw [whenStarted_inReset hs] at h
    cases h
    exact .refl s

theorem grows_exec {c : Instr} {s t : State} (hs : s.phase = .started) (h : exec c s = .next t)
    (hclassify : c = .classification → ∀ i rest port, s.classQueue = i :: rest → isCommand s (s.buffer i).telegram = true →
      decodePayload ((s.buffer i).telegram.payload.take (s.buffer i).telegram.length) ≠ .clearCounters port)
    (hcommand : ∀ h, commandOf c = some h → ∀ port, h.2.2 ≠ .clearCounters port) : Grows s t := by
  match hc : commandOf c with
  | some (ingress, source, m) =>
    rw [exec_of_commandOf hc] at h
    exact grows_whenStarted (grows_takeCommand ingress source (hcommand _ hc) s) h
  | none =>
    cases c with
    | classification => exact grows_whenStarted (grows_classify (hclassify rfl)) h
    | characterReceived p reception rival =>
      refine grows_whenStarted (grows_onOpenPort ?_) h
      split
      · exact grows_afterMissed _ _ _ _ fun u => grows_receiveCharacter _ _ _ _ fun v => grows_takeRival ..
      · exact .refl s
    | idleGap rest =>
      refine grows_whenStarted (grows_onOpenPort ?_) h
      dsimp only
      split
      · exact (grows_takeMissedRun ..).onLivePort fun u => grows_idleGap ..
      · exact .refl s
    | shortBreak p samples =>
      refine grows_whenStarted (grows_onOpenPort ?_) h
      dsimp only
      split
      · exact grows_breakEnds ..
      · exact grows_normalRunEnds ..
      all_goals exact .refl s
    | longBreak p samples =>
      refine grows_whenStarted (grows_onOpenPort ?_) h
      split
      · exact grows_longBreak ..
      · exact .refl s
    | stuckLine run order =>
      refine grows_whenStarted (grows_onOpenPort ?_) h
      dsimp only
      split
      · exact grows_stuckLine ..
      · exact .refl s
    | candidateStartBit found =>
      refine grows_whenStarted (grows_onOpenPort ?_) h
      dsimp only
      split
      · exact .refl s
      split
      · exact grows_afterMissed _ _ _ _ fun u => grows_setPort_same
      · exact grows_afterMissed _ _ _ _ fun u => grows_setPort_same
    | falseStart p second third fourth =>
      refine grows_whenStarted (grows_onOpenPort ?_) h
      split
      · exact grows_afterMissed _ _ _ _ fun u => grows_setPort_same
      · exact .refl s
    | telegramTimeLimitExpiry p => exact grows_whenStarted (grows_onOpenPort (grows_timeLimitExpires p s)) h
    | arbitrationLost p => exact grows_whenStarted (grows_onOpenPort (grows_arbitrationLost p s)) h
    | collision p => exact grows_whenStarted (grows_onOpenPort (grows_collide p s)) h
    | driveFault p => exact grows_whenStarted (grows_onOpenPort (grows_driveFault p s)) h
    | attemptCompletion p => exact grows_whenStarted (grows_onOpenPort (grows_attemptCompletion p s)) h
    | breakEnd p => exact grows_whenStarted (grows_onOpenPort (grows_breakEnd p s)) h
    | entryDeadlineExpiry p ref => exact grows_whenStarted (grows_onOpenPort (grows_entryExpires p s ref)) h
    | deadlineExpiryDuringAttempt p => exact grows_whenStarted (grows_onOpenPort (grows_attemptExpires p s)) h
    | stuckRunEnd p => exact grows_whenStarted (grows_onOpenPort (grows_stuckRunEnd p s)) h
    | programCompletion =>
      refine grows_whenStarted ?_ h
      unfold programCompletes
      split
      · exact grows_of_ports rfl fun _ => rfl
      · exact .refl s
    | retireCompletion =>
      refine grows_whenStarted ?_ h
      unfold retireCompletes
      split
      · exact grows_of_ports rfl fun _ => rfl
      · exact .refl s
    | eraseSegmentCompletion =>
      refine grows_whenStarted ?_ h
      unfold eraseSegmentCompletes
      split
      · exact grows_segmentErased ..
      · exact .refl s
    | segmentEraseStep =>
      refine grows_whenStarted ?_ h
      unfold eraseStep
      split
      iterate 2 · exact grows_segmentErased ..
      · exact .refl s
    | blankCheckCompletion =>
      refine grows_whenStarted ?_ h
      unfold blankCheckCompletes
      split
      · exact grows_of_ports rfl fun _ => rfl
      · exact .refl s
    | restartReset =>
      refine grows_whenStarted ?_ h
      split
      · exact grows_enterReset ..
      · exact .refl s
    | powerOn | resetPin =>
      cases h
      exact grows_enterReset ..
    | startUp straps =>
      cases h
      rw [hs]
      exact .refl s
    | _ => cases hc

/-- Settles O27: by what each row makes of the counters. -/
theorem countersNeverFall : Obligations.CountersNeverFall := by
  refine ⟨fun n => ⟨fun h => ?_, fun h => ?_⟩, fun v k other => Counters.read_raise v k other,
    fun c s t p k hs h ht hclassify hcommand => ?_⟩
  · have hne : n ≠ BitVec.allOnes 32 := by
      rintro rfl
      simp at h
    rw [countUp, if_neg hne, BitVec.toNat_add]
    simp
    omega
  · have heq : n = BitVec.allOnes 32 := BitVec.eq_of_toNat_eq (by rw [h]; rfl)
    rw [countUp, if_pos heq]
  · obtain ⟨-, hgrows⟩ := (grows_exec hs h hclassify hcommand).kept ht
    exact hgrows p k

end Sys2Proof.Machine
end

section
/-! SUPPORT. A whole telegram received, character after character (R13, R18, R20 to R28). -/

namespace Sys2Proof.Machine

/-! ## The line after a delivered character (R6, R14, R18) -/

theorem trailing_append_replicate (x : Level) (levels : List Level) (n : Nat) :
    trailing x (levels ++ List.replicate n x) = n + trailing x levels := by
  induction n with
  | zero => simp [trailing]
  | succ n ih =>
    rw [List.replicate_succ', ← List.append_assoc]
    simp only [trailing, List.reverse_append, List.reverse_singleton, List.singleton_append] at ih ⊢
    rw [List.takeWhile_cons_of_pos (by simp), List.length_cons, ih]
    omega

theorem trailing_append_other {x y : Level} (h : y ≠ x) (levels : List Level) (n : Nat) :
    trailing x (levels ++ List.replicate (n + 1) y) = 0 := by
  rw [List.replicate_succ', ← List.append_assoc]
  simp [trailing, List.takeWhile_cons_of_neg, h]

/-- The samples of the start bit, the mark bit and the first seven data bits. -/
def samplesBefore (c : Character) : List Level := samplesOf ((characterLevels c.mark c.data).take 9)

theorem nominalSamples_eq (c : Character) : nominalSamples c
    = (samplesBefore c ++ List.replicate 8 (levelOf (c.data.getLsbD 0))) ++ List.replicate 6 (levelOf !c.framing) := by
  simp [nominalSamples, samplesBefore, samplesOf, characterLevels, byteBits, List.replicate]

theorem lineAfterCharacter_delivered (x : LinePort) (now : Nat) {c : Character} (h : c.framing = false) :
    lineAfterCharacter x now (nominalSamples c)
      = ⟨false, some ⟨now + 2 * x.profile.rate.sampleTicks, 0⟩, none, some ⟨now, 2⟩, false⟩ := by
  have hrests : trailing .recessive (nominalSamples c)
      = 6 + trailing .recessive (samplesBefore c ++ List.replicate 8 (levelOf (c.data.getLsbD 0))) := by
    rw [nominalSamples_eq, h]
    exact trailing_append_replicate ..
  unfold lineAfterCharacter
  dsimp only
  rw [if_pos (by omega), hrests, Nat.min_eq_left (by omega)]

/-- After a delivered character nothing comes first before the next one (R5, R10). -/
theorem nothingFirst_delivered {u : State} {p : Port} {ticks : Nat} {search : Option Measure}
    (h : (u.port p).line = ⟨false, some ⟨u.clock + ticks, 0⟩, none, search, false⟩) : NothingFirst u p := by
  refine .inr ⟨?_, fun n hrun => ?_⟩
  · rintro ⟨-, -, htold | ⟨-, hreached⟩⟩
    · omega
    · rw [h] at hreached
      obtain ⟨k, hk, hlength⟩ := hreached
      cases hk
      rw [Nat.sub_eq_zero_of_le (by dsimp only; omega)] at hlength
      dsimp only at hlength
      omega
  · obtain ⟨-, -, -, -, k, hk, -⟩ := hrun
    have hnone : (u.port p).line.run = none := by rw [h]
    exact absurd (hnone.symm.trans hk) (by simp)

/-! ## A telegram part received -/

/-- The bridge with a telegram in reception at a port: nothing else is touched. -/
structure Filling (p : Port) (i : Fin Config.poolSize) (s u : State) (r : RxRecord) (b : Telegram) : Prop where
  line : OnlyLine p s u
  mgmt : u.mgmt = s.mgmt
  duties : (s.port p).SameDuties (u.port p)
  counters : (u.port p).counters = (s.port p).counters
  tx : (u.port p).tx = (s.port p).tx
  rx : (u.port p).rx = .filling r
  index : r.buffer = i
  telegram : u.buffer i = ⟨.filling p, b⟩
  others : ∀ j, j ≠ i → u.buffer j = s.buffer j
  faithful : r.Faithful b
  own : r.own = false
  noise : r.noise = false
  first : NothingFirst u p

/-- A character delivered with mark bit 0. -/
def plainRow (p : Port) (data : Byte) : Instr := .characterReceived p (.delivered ⟨false, data, false, false⟩) none

/-- A transmitter that sends nothing stays so through a character (R40). -/
theorem nextCharacter_atRest {x : TxState} (h : x = .idle ∨ x = .waitGap) (s : State) : nextCharacter s x = x := by
  rcases h with rfl | rfl <;> rfl

section Steps
variable {s u : State} {p : Port} {i : Fin Config.poolSize} {r : RxRecord} {b : Telegram}

theorem Filling.live (h : Filling p i s u r b) (hlive : Live s p) : Live u p := by
  obtain ⟨-, hphase, -⟩ := onlyLine_iff.1 h.line
  obtain ⟨hmode, -⟩ := h.duties
  obtain ⟨hs, hopen⟩ := hlive
  exact ⟨hphase.trans hs, by rw [hmode]; exact hopen⟩

/-- One more character, stored or held. -/
theorem Filling.next {c : Character} {between : State → State} (h : Filling p i s u r b) (hlive : Live s p)
    (hrest : (s.port p).tx = .idle ∨ (s.port p).tx = .waitGap) (hframing : c.framing = false) {v : State} {r' : RxRecord} {b' : Telegram}
    (hdeliver : deliverCharacter p c (startBitOf (u.port p) u.clock) between u = v.setPort p ((u.port p).withRx (.filling r')))
    (hv : OnlyLine p u v) (hmgmt : v.mgmt = u.mgmt) (hbuffer : v.buffer i = ⟨.filling p, b'⟩) (hothers : ∀ j, j ≠ i → v.buffer j = u.buffer j)
    (hindex : r'.buffer = i) (hfaithful : r'.Faithful b') (hown : r'.own = false) (hnoise : r'.noise = false) :
    ∃ u', receiveCharacter p c (nominalSamples c) between u = u' ∧ Filling p i s u' r' b' := by
  have hliveu := h.live hlive
  obtain ⟨-, hphase, hclock, -⟩ := onlyLine_iff.1 hv
  have hreceive := receiveCharacter_live (samples := nominalSamples c) hdeliver (hphase.trans hliveu.1) hliveu.2
  refine ⟨_, hreceive, ?_⟩
  have htx : nextCharacter v ((u.port p).withRx (.filling r')).tx = (s.port p).tx := by
    rw [show ((u.port p).withRx (.filling r')).tx = (s.port p).tx from h.tx]
    exact nextCharacter_atRest hrest v
  rw [htx, lineAfterCharacter_delivered _ _ hframing]
  obtain ⟨hmode, hqueue, hprofile, hbreak⟩ := h.duties
  refine ⟨(h.line.trans hv).trans (onlyLine_setPort ..), hmgmt.trans h.mgmt, ?_, ?_, ?_, ?_, hindex, hbuffer,
    fun j hj => (hothers j hj).trans (h.others j hj), hfaithful, hown, hnoise, ?_⟩
  · rw [State.port_setPort_same]
    exact ⟨hmode, hqueue, hprofile, hbreak⟩
  · rw [State.port_setPort_same]
    exact h.counters
  · rw [State.port_setPort_same]
    rfl
  · rw [State.port_setPort_same]
    rfl
  · refine nothingFirst_delivered (ticks := 2 * (u.port p).profile.rate.sampleTicks) (search := some ⟨u.clock, 2⟩) ?_
    rw [State.port_setPort_same, State.setPort_clock, hclock]
    rfl

/-- A byte short of the check value (R22). -/
theorem Filling.byte (h : Filling p i s u r b) (hlive : Live s p) (hrest : (s.port p).tx = .idle ∨ (s.port p).tx = .waitGap)
    (hlast : r.expected ≠ some (r.position + 1)) (hhigh : r.expected ≠ some (r.position + 2)) (data : Byte) :
    ∃ u' r', exec (plainRow p data) u = .next u' ∧ Filling p i s u' r' (storeByte (r.position + 1) data b)
      ∧ r'.position = r.position + 1 := by
  have hbuffer : u.buffer r.buffer = ⟨.filling p, b⟩ := by rw [h.index]; exact h.telegram
  have hdeliver := (deliver_store (c := ⟨false, data, false, false⟩) (start := startBitOf (u.port p) u.clock) (between := takeRival p none)
    h.rx rfl rfl).trans (storeCharacter_byte hlast hhigh)
  rw [hbuffer, h.index] at hdeliver
  obtain ⟨u', hreceive, hfilling⟩ := h.next hlive hrest rfl hdeliver (onlyLine_setBuffer ..) rfl (State.buffer_setBuffer_same ..)
    (fun j hj => State.buffer_setBuffer_ne _ _ hj) h.index (h.faithful.storeByte hlast hhigh rfl rfl rfl rfl) h.own
    (by show (r.noise || false) = false; rw [h.noise]; rfl)
  exact ⟨u', _, (exec_character (h.live hlive) h.first rfl).trans (congrArg _ hreceive), hfilling, rfl⟩

/-- The more significant byte of the check value (R22). -/
theorem Filling.high (h : Filling p i s u r b) (hlive : Live s p) (hrest : (s.port p).tx = .idle ∨ (s.port p).tx = .waitGap)
    (hhigh : r.expected = some (r.position + 2)) (data : Byte) :
    ∃ u' r', exec (plainRow p data) u = .next u' ∧ Filling p i s u' r' b ∧ r'.expected = some (r'.position + 1) ∧ r'.checkHigh = some data
      ∧ r'.crc = r.crc := by
  have hdeliver := (deliver_store (c := ⟨false, data, false, false⟩) (start := startBitOf (u.port p) u.clock) (between := takeRival p none)
    h.rx rfl rfl).trans (storeCharacter_high h.faithful hhigh)
  obtain ⟨u', hreceive, hfilling⟩ := h.next hlive hrest rfl hdeliver (.refl p u) rfl h.telegram (fun _ _ => rfl) h.index
    (h.faithful.checkHigh hhigh rfl rfl rfl rfl) h.own (by show (r.noise || false) = false; rw [h.noise]; rfl)
  exact ⟨u', _, (exec_character (h.live hlive) h.first rfl).trans (congrArg _ hreceive), hfilling, hhigh, rfl, rfl⟩

end Steps

theorem execAll_cons {c : Instr} {rest : List Instr} {s t : State} (h : exec c s = .next t) : execAll (c :: rest) s = execAll rest t := by
  rw [execAll, h]

theorem execAll_append {xs ys : List Instr} {s t : State} (h : execAll xs s = .next t) : execAll (xs ++ ys) s = execAll ys t := by
  induction xs generalizing s with
  | nil =>
    cases h
    rfl
  | cons c rest ih =>
    obtain ⟨u, hu⟩ := exec_next c s
    rw [execAll_cons hu] at h
    rw [List.cons_append, execAll_cons hu, ih h]

/-- The payload, byte after byte (R22). -/
theorem Filling.payload {s : State} {p : Port} {i : Fin Config.poolSize} (hlive : Live s p)
    (hrest : (s.port p).tx = .idle ∨ (s.port p).tx = .waitGap) : ∀ (bytes : List Byte) {u : State} {r : RxRecord} {b : Telegram},
    Filling p i s u r b → r.position = 3 + b.payload.length → b.payload.length + bytes.length = b.length →
    ∃ u' r', execAll (bytes.map (plainRow p)) u = .next u' ∧ Filling p i s u' r' { b with payload := b.payload ++ bytes }
      ∧ r'.position = 3 + (b.payload ++ bytes).length
  | [], u, r, b, h, hposition, _ => ⟨u, r, rfl, by rw [List.append_nil]; exact h, by rw [List.append_nil]; exact hposition⟩
  | data :: bytes, u, r, b, h, hposition, hlength => by
    rw [List.length_cons] at hlength
    have hexpected : r.expected = some (5 + b.length) := by
      have hparts := h.faithful
      unfold RxRecord.Faithful at hparts
      rw [if_neg (by omega)] at hparts
      exact hparts.1
    obtain ⟨v, r', hexec, hv, hposition'⟩ := h.byte hlive hrest (by rw [hexpected]; simp; omega) (by rw [hexpected]; simp; omega) data
    have hstored : storeByte (r.position + 1) data b = { b with payload := b.payload ++ [data] } := by
      rw [storeByte, if_neg (by omega), if_neg (by omega)]
    rw [hstored] at hv
    have hlength' : (b.payload ++ [data]).length = b.payload.length + 1 := by simp
    obtain ⟨w, r'', hexecs, hw, hposition''⟩ := Filling.payload hlive hrest bytes hv
      (by show r'.position = 3 + (b.payload ++ [data]).length; omega)
      (by show (b.payload ++ [data]).length + bytes.length = b.length; omega)
    refine ⟨w, r'', ?_, ?_, ?_⟩
    · rw [List.map_cons, execAll_cons hexec, hexecs]
    · simpa using hw
    · simpa using hposition''

/-- The header takes the lowest free buffer (R20). -/
theorem exists_header {s : State} {p : Port} {i : Fin Config.poolSize} (hlive : Live s p) (hfirst : NothingFirst s p)
    (hrx : (s.port p).rx = .search) (hrest : (s.port p).tx = .idle ∨ (s.port p).tx = .waitGap) (hfree : (s.buffer i).claim = .free)
    (hlower : ∀ j, j < i → (s.buffer j).claim ≠ .free) (destination : Byte) :
    ∃ u r, exec (.characterReceived p (.delivered ⟨true, destination, false, false⟩) none) s = .next u
      ∧ Filling p i s u r ⟨destination, 0, 0, []⟩ ∧ r.position = 1 ∧ r.expected = none := by
  have hexec := exec_character (reception := .delivered ⟨true, destination, false, false⟩) (rival := none) hlive hfirst rfl
  have hdeliver := deliver_header (c := ⟨true, destination, false, false⟩) (start := startBitOf (s.port p) s.clock)
    (between := takeRival p none) (.inl hrx) rfl rfl
  have hown : marksOwn (s.port p) (startBitOf (s.port p) s.clock) = false := by
    rcases hrest with h | h <;> simp [marksOwn, h, TxState.attempt]
  rw [takeHeader_some (freeIndex_eq_some hfree hlower)] at hdeliver
  have htx (v : State) : nextCharacter v (s.port p).tx = (s.port p).tx := nextCharacter_atRest hrest v
  rw [receiveCharacter_live hdeliver hlive.1 hlive.2] at hexec
  refine ⟨_, headerTaken i ⟨true, destination, false, false⟩ (s.port p) (startBitOf (s.port p) s.clock), hexec, ?_, rfl, rfl⟩
  have hmoved (x : LinePort) : OnlyLine p s ((s.setBuffer i ⟨.filling p, ⟨destination, 0, 0, []⟩⟩).setPort p x) :=
    (onlyLine_setBuffer ..).trans (onlyLine_setPort ..)
  refine ⟨hmoved _, rfl, ?_, ?_, ?_, ?_, rfl,
    State.buffer_setBuffer_same .., fun j hj => State.buffer_setBuffer_ne _ _ hj, faithful_header rfl rfl rfl rfl, hown, rfl, ?_⟩
  · rw [State.port_setPort_same]
    exact ⟨rfl, rfl, rfl, rfl⟩
  · rw [State.port_setPort_same]
    rfl
  · rw [State.port_setPort_same]
    exact htx _
  · rw [State.port_setPort_same]
    rfl
  · refine nothingFirst_delivered (ticks := 2 * (s.port p).profile.rate.sampleTicks) (search := some ⟨s.clock, 2⟩) ?_
    rw [State.port_setPort_same, State.setPort_clock, State.setBuffer_clock]
    exact lineAfterCharacter_delivered (c := ⟨true, destination, false, false⟩) (s.port p) s.clock rfl

/-- The header, the source and the class and length byte (R20, R22). -/
theorem exists_filling {s : State} {p : Port} {i : Fin Config.poolSize} (hlive : Live s p) (hfirst : NothingFirst s p)
    (hrx : (s.port p).rx = .search) (hrest : (s.port p).tx = .idle ∨ (s.port p).tx = .waitGap) (hfree : (s.buffer i).claim = .free)
    (hlower : ∀ j, j < i → (s.buffer j).claim ≠ .free) (destination source control : Byte) :
    ∃ u r, execAll [.characterReceived p (.delivered ⟨true, destination, false, false⟩) none, plainRow p source, plainRow p control] s
        = .next u ∧ Filling p i s u r ⟨destination, source, control, []⟩ ∧ r.position = 3 := by
  obtain ⟨u, header, hu, hheader, hone, hnone⟩ := exists_header hlive hfirst hrx hrest hfree hlower destination
  obtain ⟨v, r, hv, hfilling, hposition⟩ := hheader.byte hlive hrest (by rw [hnone]; simp) (by rw [hnone]; simp) source
  rw [hone] at hfilling hposition
  have hexpected : r.expected = none := by
    have hparts := hfilling.faithful
    unfold RxRecord.Faithful at hparts
    rw [hposition, if_pos (by decide)] at hparts
    exact hparts.2.1
  obtain ⟨w, r', hw, hfilling', hposition'⟩ := hfilling.byte hlive hrest (by rw [hexpected]; simp) (by rw [hexpected]; simp) control
  rw [hposition] at hfilling' hposition'
  exact ⟨w, r', (execAll_cons hu).trans ((execAll_cons hv).trans ((execAll_cons hw).trans rfl)), hfilling', hposition'⟩

/-- Settles O15: header, source, class and length, payload and check value one after the other. -/
theorem telegramIsReceivedWhole : Obligations.TelegramIsReceivedWhole := by
  intro s p t i hlive hfirst hrx hrest hwhole hfree hlower
  have hpayload : t.payload.length = t.length := hwhole
  have htake : t.payload.take t.length = t.payload := List.take_of_length_le hpayload.le
  obtain ⟨u, r, hstart, hfilling, hposition⟩ := exists_filling hlive hfirst hrx hrest hfree hlower t.destination t.source t.control
  obtain ⟨v, r', hbytes, hfilled, hposition'⟩ := Filling.payload hlive hrest t.payload hfilling hposition (by
    show 0 + t.payload.length = t.length
    omega)
  have htelegram : (⟨t.destination, t.source, t.control, [] ++ t.payload⟩ : Telegram) = t := rfl
  rw [htelegram] at hfilled
  have hparts := hfilled.faithful
  unfold RxRecord.Faithful at hparts
  rw [if_neg (by omega)] at hparts
  obtain ⟨hexpected, -, -, -, hcrc⟩ := hparts
  obtain ⟨w, r'', hhigh, hheld, hlast, hhighByte, hcrc'⟩ := hfilled.high hlive hrest
    (by rw [hexpected, hposition', Telegram.count, List.nil_append, hpayload]; exact congrArg some (by omega)) (checkHighByte t.check)
  have hbuffer : w.buffer r''.buffer = ⟨.filling p, t⟩ := by rw [hheld.index]; exact hheld.telegram
  obtain ⟨x, hexec, hline, hmgmt, hxrx, hqueue, hprofile, hbreak, hothers, -, hmode, -, haccept⟩ :=
    ordinaryTelegramCompletes w p (.delivered ⟨false, checkLowByte t.check, false, false⟩) none ⟨false, checkLowByte t.check, false, false⟩ r''
      (hheld.live hlive) hheld.first hheld.rx (by rw [hbuffer]; exact hheld.faithful) hheld.own hlast rfl rfl rfl
  have hgood : r''.crc = r''.checkHigh.getD 0 ++ checkLowByte t.check := by
    rw [hcrc', hcrc, hhighByte]
    exact (checkBytes_append t.check).symm
  obtain ⟨hcounters, hwaiting, hclassQueue⟩ := haccept hgood fun h => by
    have hquiet : (r''.noise || false) = true := h.1
    rw [hheld.noise] at hquiet
    cases hquiet
  obtain ⟨hmode', hqueue', hprofile', hbreak'⟩ := hheld.duties
  obtain ⟨-, -, -, hclassQueue', -⟩ := onlyLine_iff.1 hheld.line
  have hrows : t.characters.map (fun c => Instr.characterReceived p (.delivered c) none)
      = [Instr.characterReceived p (.delivered ⟨true, t.destination, false, false⟩) none, plainRow p t.source, plainRow p t.control]
        ++ (t.payload.map (plainRow p) ++ [plainRow p (checkHighByte t.check), plainRow p (checkLowByte t.check)]) := by
    rw [characters_eq, htake]
    simp [plainCharacters, plainRow, Function.comp_def]
  refine ⟨x, ?_, ?_, hmgmt.trans hheld.mgmt, ?_, ?_, fun j hj => ?_, hxrx, hqueue.trans hqueue', ?_, ?_⟩
  · rw [hrows, execAll_append hstart, execAll_append hbytes, execAll_cons hhigh, execAll_cons (c := plainRow p _) hexec]
    rfl
  · have hmoved : OnlyLine p { s with classQueue := x.classQueue } { w with classQueue := x.classQueue } := by
      obtain ⟨hports, hphase, hclock, -, hrest⟩ := onlyLine_iff.1 hheld.line
      exact onlyLine_iff.2 ⟨hports, hphase, hclock, rfl, hrest⟩
    exact hmoved.trans hline
  · rw [hclassQueue, hclassQueue', hheld.index]
  · rw [← hheld.index, hwaiting, hbuffer]
  · rw [hothers j (by rw [hheld.index]; exact hj), hheld.others j hj]
  · rw [hmode hgood, hmode']
  · rw [hcounters, hheld.counters]

end Sys2Proof.Machine
end

section
/-! SUPPORT. What comes before a row: idle gaps and runs that no step has taken (R5, R6, R10, R11). -/

namespace Sys2Proof.Machine

/-- A port whose line is measured otherwise. -/
def LinePort.withLine (x : LinePort) (line : LineView) : LinePort := { x with line := line }

/-! ## Idle gaps do not depend on what was measured of the line (R6, R31, R39) -/

/-- What the blocks of a port keep of it and of the bridge while they act on its line. -/
structure Beneath (p : Port) (s u : State) (x y : LinePort) : Prop where
  line : OnlyLine p s u
  mode : y.mode = x.mode
  profile : y.profile = x.profile
  candidate : y.candidate = x.candidate

section Gap
variable {p : Port}

theorem Beneath.refl (s : State) (x : LinePort) : Beneath p s s x x := ⟨.refl p s, rfl, rfl, rfl⟩

theorem Beneath.trans {s t u : State} {x y z : LinePort} (h : Beneath p s t x y) (k : Beneath p t u y z) : Beneath p s u x z :=
  ⟨h.line.trans k.line, k.mode.trans h.mode, k.profile.trans h.profile, k.candidate.trans h.candidate⟩

theorem abortReception_withLine (k : CounterName) {next : RxState} (hnext : next.buffer = none) (s : State) (x : LinePort) :
    ∃ (u : State) (y : LinePort), Beneath p s u x y ∧ y.rx.buffer = none
      ∧ ∀ line, abortReception p k next (s.setPort p (x.withLine line)) = u.setPort p (y.withLine line) := by
  have hport (line : LineView) : (s.setPort p (x.withLine line)).port p = x.withLine line := State.port_setPort_same ..
  cases hrx : x.rx with
  | filling r =>
    have habort (line : LineView) := abortReception_filling (k := k) (next := next) (s := s.setPort p (x.withLine line)) (p := p) (r := r)
      (by rw [hport]; exact hrx)
    simp only [hport, freeBuffer_setPort, State.setPort_setPort] at habort
    by_cases hsettled : r.own = true ∧ ∃ a, x.tx.attempt = some a ∧ a.completed = true
    · obtain ⟨hown, a, ha, hc⟩ := hsettled
      refine ⟨releaseHead x.queue (s.freeBuffer r.buffer), ((x.counted k).withRx next).headless.rested,
        ⟨(onlyLine_freeBuffer p s r.buffer).trans (onlyLine_releaseHead ..), rfl, rfl, rfl⟩, hnext, fun line => ?_⟩
      rw [habort, if_pos hown, echoVerdict_uncounted (x := ((x.withLine line).counted k).withRx next) ha hc]
      rfl
    · refine ⟨s.freeBuffer r.buffer, (x.counted k).withRx next, ⟨onlyLine_freeBuffer p s r.buffer, rfl, rfl, rfl⟩, hnext, fun line => ?_⟩
      rw [habort]
      split
      · next hown =>
        exact echoVerdict_ignored (x := ((x.withLine line).counted k).withRx next)
          (fun a ha => Bool.eq_false_iff.2 fun hc => hsettled ⟨hown, a, ha, hc⟩) none
      · rfl
  | search | skip | deaf =>
    have hnone : x.rx.buffer = none := by rw [hrx]; rfl
    exact ⟨s, x, .refl s x, hnone, fun line => abortReception_other (by rw [hport]; exact hnone)⟩

theorem gapAtReceiver_withLine (s : State) (x : LinePort) : ∃ (u : State) (y : LinePort), Beneath p s u x y ∧ y.rx.buffer = none
    ∧ ∀ line, gapAtReceiver p (s.setPort p (x.withLine line)) = u.setPort p (y.withLine line) := by
  cases hrx : x.rx with
  | filling r =>
    obtain ⟨u, y, hkept, hnone, habort⟩ := abortReception_withLine (p := p) .rxBroken (next := .search) rfl s x
    exact ⟨u, y, hkept, hnone, fun line => (gapAtReceiver_filling (x := x.withLine line) hrx).trans (habort line)⟩
  | search =>
    exact ⟨s, x.withRx .search, ⟨.refl p s, rfl, rfl, rfl⟩, rfl, fun line => gapAtReceiver_listening (x := x.withLine line) (.inl hrx)⟩
  | skip =>
    exact ⟨s, x.withRx .search, ⟨.refl p s, rfl, rfl, rfl⟩, rfl, fun line => gapAtReceiver_listening (x := x.withLine line) (.inr hrx)⟩
  | deaf =>
    refine ⟨s, x, .refl s x, by rw [hrx]; rfl, fun line => ?_⟩
    unfold gapAtReceiver
    rw [State.port_setPort_same, show (x.withLine line).rx = .deaf from hrx]

/-- The line after an idle gap, on which a transmitter has begun or not (R6, R39). -/
def LineView.afterGap (began : Bool) (line : LineView) : LineView :=
  if began then { line with idle := false, rest := none, run := none } else line

theorem gapAtTransmitter_withLine (s : State) (x : LinePort) : ∃ (y : LinePort) (began : Bool), Beneath p s s x y ∧ y.rx = x.rx
    ∧ (began = true → y.tx.driving = true)
    ∧ ∀ line, gapAtTransmitter p (s.setPort p (x.withLine line)) = s.setPort p (y.withLine (line.afterGap began)) := by
  by_cases hwait : x.tx = .waitGap
  · have hbegins (line : LineView) : gapAtTransmitter p (s.setPort p (x.withLine line)) = beginSending p (s.setPort p (x.withLine line)) := by
      rw [gapAtTransmitter, State.port_setPort_same, show (x.withLine line).tx = .waitGap from hwait]
    simp only [hbegins, beginSending, State.port_setPort_same, State.setPort_setPort]
    cases hbreak : x.breakPending with
    | true =>
      refine ⟨{ x with breakPending := false, tx := .breaking s.clock, ownStart := false }, true, ⟨.refl p s, rfl, rfl, rfl⟩, rfl,
        fun _ => rfl, fun line => ?_⟩
      exact if_pos hbreak
    | false =>
      cases hqueue : x.queue with
      | nil =>
        refine ⟨x, false, .refl s x, rfl, (fun h => by cases h), fun line => ?_⟩
        rw [if_neg (by show ¬ x.breakPending = true; rw [hbreak]; simp), show (x.withLine line).queue = [] from hqueue]
        rfl
      | cons e rest =>
        refine ⟨{ x with tx := .arbitrating ⟨e.ref, 1, (s.telegramOf e.ref).check, false, false⟩, ownStart := true }, true,
          ⟨.refl p s, rfl, rfl, rfl⟩, rfl, fun _ => rfl, fun line => ?_⟩
        rw [if_neg (by show ¬ x.breakPending = true; rw [hbreak]; simp), show (x.withLine line).queue = e :: rest from hqueue]
        have htelegram : (s.setPort p (x.withLine line)).telegramOf e.ref = s.telegramOf e.ref := by cases e.ref <;> rfl
        dsimp only
        rw [htelegram, ← hqueue]
        rfl
  · refine ⟨x, false, .refl s x, rfl, (fun h => by cases h), fun line => ?_⟩
    unfold gapAtTransmitter
    rw [State.port_setPort_same]
    cases htx : x.tx with
    | waitGap => exact absurd htx hwait
    | idle | arbitrating _ | sending _ | breaking _ | halted => rw [show (x.withLine line).tx = _ from htx]; rfl

/-- What an idle gap leaves: `u` with the port `y` in it, whatever was measured of the rest. -/
structure Gapped (p : Port) (s u : State) (y : LinePort) (began : Bool) : Prop where
  line : OnlyLine p s u
  mode : y.mode = (s.port p).mode
  profile : y.profile = (s.port p).profile
  candidate : y.candidate = none
  rx : y.rx.buffer = none
  driving : began = true → y.tx.driving = true
  eq : ∀ samples, idleGap p samples s = u.setPort p (y.withLine ((LineView.idleFor s.clock samples).afterGap began))

theorem exists_gapped (p : Port) (s : State) : ∃ (u : State) (y : LinePort) (began : Bool), Gapped p s u y began := by
  obtain ⟨u, y, ⟨hline, hmode, hprofile, hcandidate⟩, hrx, hreceiver⟩ :=
    gapAtReceiver_withLine (p := p) s { s.port p with candidate := none, ownStart := false }
  obtain ⟨z, began, ⟨-, hmode', hprofile', hcandidate'⟩, hrx', hdriving, htransmitter⟩ := gapAtTransmitter_withLine (p := p) u y
  exact ⟨u, z, began, hline, hmode'.trans hmode, hprofile'.trans hprofile, hcandidate'.trans hcandidate, by rw [hrx']; exact hrx, hdriving,
    fun samples => (congrArg (gapAtTransmitter p) (hreceiver (LineView.idleFor s.clock samples))).trans (htransmitter _)⟩

end Gap

/-- After an idle gap of 12 bit times nothing comes first at its port (R5, R6, R10). -/
structure Cleared (p : Port) (t : State) : Prop where
  live : Live t p
  candidate : (t.port p).candidate = none
  run : (t.port p).line.run = none
  gap : ∀ told, ¬ GapMissed t p told

section Cleared
variable {p : Port} {s u : State} {y : LinePort} {began : Bool}

theorem Gapped.cleared (h : Gapped p s u y began) (hlive : Live s p) (samples : Nat) : Cleared p (idleGap p samples s) := by
  obtain ⟨-, hphase, -⟩ := onlyLine_iff.1 h.line
  obtain ⟨hs, hopen⟩ := hlive
  rw [h.eq]
  refine ⟨⟨hphase.trans hs, by rw [State.port_setPort_same]; exact (congrArg PortMode.isOpen h.mode).trans hopen⟩,
    by rw [State.port_setPort_same]; exact h.candidate, ?_, fun told => ?_⟩
  · rw [State.port_setPort_same]
    cases began <;> rfl
  · rintro ⟨hidle, hdriving, -⟩
    rw [State.port_setPort_same] at hidle hdriving
    cases began with
    | false => cases hidle
    | true => exact Bool.noConfusion ((h.driving rfl).symm.trans hdriving)

theorem runEnded_of_run {n r : Nat} (h : (s.port p).line.run = none) : ¬ RunEnded s p r n := by
  rintro ⟨-, -, -, -, k, hk, -⟩
  exact absurd (h.symm.trans hk) (by simp)

theorem Cleared.afterMissed {t : State} (h : Cleared p t) (recessives rest : Nat) (row : State → State) :
    Machine.afterMissed p recessives rest row t = row t :=
  afterMissed_nothing h.live (h.gap rest) fun _ hn => absurd hn (runEnded_of_run (s := { t with clock := t.clock - 1 }) h.run)

/-- A gap that is missed is one that the gap's own row takes (R6). -/
theorem exec_idleGap_missed {told : Nat} (hlive : Live s p) (hmissed : GapMissed s p told) (hrun : (s.port p).line.run = none) :
    ∃ samples, 96 ≤ samples ∧ exec (.idleGap ⟨p, 96⟩) s = .next (idleGap p samples s) := by
  obtain ⟨-, hdriving, -⟩ := hmissed
  exact ⟨_, (le_atLeastMeasured_iff s p 96 96 _).2 (.inl (le_refl _)),
    exec_idleGap hlive hdriving (.inl (le_refl _)) fun n hn => absurd hn (runEnded_of_run hrun)⟩

/-- Where no run of 11 or more bit times was missed, a gap that was comes before the row (R5, R10). -/
theorem afterMissed_gap {recessives rest : Nat} {row : State → State} (hlive : Live s p) (hcandidate : (s.port p).candidate = none)
    (hrun : ∀ n, RunEndedBefore s p recessives n → n < 88) (hmissed : GapMissed s p rest) :
    afterMissed p recessives rest row s = row (idleGap p 96 s) := by
  obtain ⟨hs, hopen⟩ := hlive
  have hshort : (s.port p).missedRun (s.clock - 1) recessives < 88 := by
    by_contra hn
    exact hn (hrun _ (runEnded_missedRun (s := { s with clock := s.clock - 1 }) (p := p)
      (show 1 ≤ (s.port p).missedRun (s.clock - 1) recessives by omega)))
  rw [afterMissed, takeMissedRun_none hshort, onLivePort_live hs hopen, takeMissedGap_some hcandidate hmissed]

end Cleared

/-! ## Runs that no row has told the end of (R10, R11) -/

/-- What is left to come first after a run of 11 or more bit times has been taken: a gap that the row itself tells of. -/
structure RunTaken (p : Port) (t : State) : Prop where
  candidate : (t.port p).candidate = none
  run : ∀ upTo recessives, (t.port p).missedRun upTo recessives = 0
  rest : ∀ told, (t.port p).restLength t.clock told = told

theorem missedRun_of_run {x : LinePort} (h : x.line.run = none) (upTo recessives : Nat) : x.missedRun upTo recessives = 0 := by
  rw [LinePort.missedRun, h]

theorem missedRun_of_stuck {x : LinePort} (h : x.line.stuck = true) (upTo recessives : Nat) : x.missedRun upTo recessives = 0 := by
  unfold LinePort.missedRun
  split
  · rw [if_neg (by rw [h]; simp)]
  · rfl

section Runs
variable {p : Port} {s : State}

theorem breakEnds_taken (hstuck : (s.port p).line.stuck = false) : RunTaken p (breakEnds p s) := by
  obtain ⟨u, y, hkept, -, habort⟩ := abortReception_withLine (p := p) .rxBroken (next := .skip) rfl s ((s.port p).afterBreak s.clock)
  obtain ⟨-, -, hclock, -⟩ := onlyLine_iff.1 hkept.line
  have heq : breakEnds p s = u.setPort p (y.withLine (LineView.recessiveFor s.clock 0)) :=
    (breakEnds_eq hstuck).trans (habort (LineView.recessiveFor s.clock 0))
  rw [heq]
  refine ⟨by rw [State.port_setPort_same]; exact hkept.candidate, missedRun_of_run (by rw [State.port_setPort_same]; rfl), fun told => ?_⟩
  rw [State.port_setPort_same, State.setPort_clock, hclock]
  show max told (0 + (s.clock - s.clock) / y.profile.rate.sampleTicks) = told
  simp

theorem endUncounted_candidate (p : Port) (s : State) : ((endUncounted p s).port p).candidate = (s.port p).candidate := by
  cases hdriving : (s.port p).tx.driving with
  | false => rw [endUncounted_quiet hdriving]
  | true =>
    rcases driving_cases hdriving with ⟨since, htx⟩ | ⟨a, ha, hc⟩
    · rw [endUncounted_breaking htx, State.port_setPort_same]
      rfl
    · rw [endUncounted_attempt ha hc, dropAttempt_eq]
      split <;> rw [State.port_setPort_same] <;> rfl

/-- A stuck line closes its port, or leaves it on a run that is not classified again (R10, R58, R60). -/
theorem stuckLine_taken (samples : Nat) : ((stuckLine p .blocksFirst samples s).port p).mode.isOpen = false
    ∨ RunTaken p (stuckLine p .blocksFirst samples s) := by
  obtain ⟨u, y, hkept, -, habort⟩ := abortReception_withLine (p := p) .rxBroken (next := .skip) rfl s ((s.port p).stuckFor s.clock samples)
  have hblocks : stuckToBlocks p (s.setPort p ((s.port p).stuckFor s.clock samples))
      = endUncounted p (u.setPort p (y.withLine ((s.port p).stuckFor s.clock samples).line)) := by
    rw [← habort]
    rfl
  rw [stuckLine_blocksFirst, hblocks]
  generalize hv : endUncounted p (u.setPort p (y.withLine ((s.port p).stuckFor s.clock samples).line)) = v
  have hcandidate : (v.port p).candidate = none := by
    rw [← hv, endUncounted_candidate, State.port_setPort_same]
    exact hkept.candidate
  have hline : (v.port p).line = ((s.port p).stuckFor s.clock samples).line := by
    rw [← hv, (endUncounted_mode_line p _).2, State.port_setPort_same]
    rfl
  cases hmode : (v.port p).mode with
  | running =>
    rw [takeFault_running hmode]
    refine .inr ⟨?_, missedRun_of_stuck ?_, fun told => ?_⟩
    · rw [State.port_setPort_same]
      exact hcandidate
    · rw [State.port_setPort_same]
      exact congrArg LineView.stuck hline
    · rw [State.port_setPort_same]
      exact congrArg (fun l : LineView => atLeastMeasured (v.port p).profile.rate v.clock told l.rest) hline
  | recovering =>
    obtain ⟨hclosed, -⟩ := closePort_port p .isolated (v.count p .faults)
    refine .inl ?_
    rw [takeFault, hmode]
    dsimp only
    rw [hclosed]
    rfl
  | isolated | off =>
    refine .inl ?_
    rw [takeFault, hmode]
    dsimp only
    rw [hmode]
    rfl

/-- A run whose end no row has told of, and what the row of its class makes of one of that length (R10, R11). -/
theorem takeMissedRun_class {upTo recessives n : Nat} (hlive : Live s p) (hstuck : (s.port p).line.stuck = false)
    (hmissed : (s.port p).missedRun upTo recessives = n) (hlong : 88 ≤ n) :
    let v := takeMissedRun p upTo recessives s
    let u := s.withRun p (some ⟨s.clock, n⟩)
    ((v.phase = .inReset ∨ (v.port p).mode.isOpen = false) ∨ RunTaken p v)
      ∧ (n < 512 → exec (.shortBreak p n) u = .next v) ∧ (512 ≤ n → n < 2048 → exec (.longBreak p n) u = .next v)
      ∧ (2048 ≤ n → exec (.stuckLine ⟨p, n⟩ .blocksFirst) u = .next v) := by
  intro v u
  obtain ⟨hshort, hbroken, hdeclared⟩ := takeMissedRun_some hmissed
  obtain ⟨hs, hopen⟩ := hlive
  have hport : u.port p = { s.port p with line := { (s.port p).line with run := some ⟨s.clock, n⟩ } } := State.port_setPort_same ..
  have hliveu : Live u p := ⟨hs, by rw [hport]; exact hopen⟩
  have hstucku : (u.port p).line.stuck = false := by rw [hport]; exact hstuck
  have hreached (m : Nat) : Reached u p m (u.port p).line.run ↔ m ≤ n := by
    rw [hport]
    have hmeasured : (⟨s.clock, n⟩ : Measure).samples (u.port p).profile.rate u.clock = n := by
      show n + (s.clock - s.clock) / _ = n
      simp
    show Reached u p m (some ⟨s.clock, n⟩) ↔ _
    rw [← le_samples_iff, hmeasured]
  have hends : breakEnds p u = breakEnds p s := by
    rw [breakEnds_eq hstuck, breakEnds_eq hstucku, hport]
    exact congrArg _ (State.setPort_setPort ..)
  have hlonger : longBreak p u = longBreak p s := by
    rw [longBreak, longBreak, hends, hstuck, hstucku]
    rfl
  refine ⟨?_, fun h => ?_, fun h h' => ?_, fun h => ?_⟩
  · by_cases h1 : n < 512
    · rw [show v = breakEnds p s from hshort hlong h1]
      exact .inr (breakEnds_taken hstuck)
    by_cases h2 : n < 2048
    · rw [show v = longBreak p s from hbroken (by omega) h2, longBreak, if_neg (Bool.eq_false_iff.1 hstuck)]
      split
      · exact .inl (.inl rfl)
      · exact .inr (breakEnds_taken hstuck)
    · rw [show v = stuckLine p .blocksFirst n s from hdeclared (by omega)]
      exact (stuckLine_taken n).imp .inr id
  · rw [show v = breakEnds p s from hshort hlong h, ← hends]
    exact exec_shortBreak hliveu hlong h (.inr (by rw [hreached]; omega))
  · rw [show v = longBreak p s from hbroken h h', ← hlonger]
    exact exec_longBreak_class hliveu h h' (.inr (by rw [hreached]; omega))
  · rw [show v = stuckLine p .blocksFirst n s from hdeclared h]
    have hlength : (u.port p).runLength u.clock n = n := by
      rw [hport]
      show max n (n + (s.clock - s.clock) / _) = n
      simp
    rw [exec_stuckLine_declares .blocksFirst hliveu.1 (.inl h) hstucku, hlength, onOpenPort_open hliveu.2, stuckLine_blocksFirst,
      stuckLine_blocksFirst, hport]
    refine congrArg (fun t => Host.Outcome.next (takeFault p (stuckToBlocks p t))) ?_
    exact State.setPort_setPort ..

end Runs

end Sys2Proof.Machine
end

section
/-! SUPPORT. The rows that tell of a dominant sample, after what comes before them (R5 to R7, R10, R14, R15, R18). -/

namespace Sys2Proof.Machine

/-! ## The rows as what they do after what was missed -/

/-- What the row of a candidate start bit does to the line: it begins the candidate, or start search passes the sample over (R14). -/
def startRow (p : Port) (recessives : Nat) : State → State := if 2 ≤ recessives then candidateStartBit p else passOver p recessives

theorem execAll_one (c : Instr) (s : State) : execAll [c] s = exec c s := by
  obtain ⟨t, ht⟩ := exec_next c s
  rw [execAll_cons ht, ht]
  rfl

section Rows
variable {p : Port} {s : State}

/-- A row that reaches no port changes nothing (R35, R54, R142). -/
theorem whenDead (f : State → State) (h : s.phase = .inReset ∨ (s.port p).mode.isOpen = false) : whenStarted (onOpenPort p f) s = .next s := by
  rcases h with h | h
  · exact whenStarted_inReset h
  · cases hphase : s.phase with
    | started => rw [whenStarted_started hphase, onOpenPort_closed h]
    | inReset => exact whenStarted_inReset hphase

theorem onLivePort_dead (f : State → State) (h : s.phase = .inReset ∨ (s.port p).mode.isOpen = false) : onLivePort p f s = s := by
  rcases h with h | h
  · exact onLivePort_inReset h
  · exact onLivePort_closed h

theorem live_or_dead (p : Port) (s : State) : Live s p ∨ s.phase = .inReset ∨ (s.port p).mode.isOpen = false := by
  cases hphase : s.phase with
  | inReset => exact .inr (.inl rfl)
  | started =>
    cases hopen : (s.port p).mode.isOpen with
    | false => exact .inr (.inr rfl)
    | true => exact .inl ⟨hphase, hopen⟩

/-- A row that does one thing after what was missed, where no candidate stands. -/
structure AfterMissedRow (p : Port) (row : Instr) (recessives rest : Nat) (f : State → State) : Prop where
  exists_row : ∃ g : State → State, (∀ s, exec row s = whenStarted (onOpenPort p g) s)
    ∧ ∀ s, (s.port p).candidate = none → g s = afterMissed p recessives rest f s

theorem AfterMissedRow.exec_live {row : Instr} {recessives rest : Nat} {f : State → State} (h : AfterMissedRow p row recessives rest f)
    (hlive : Live s p) (hcandidate : (s.port p).candidate = none) : exec row s = .next (afterMissed p recessives rest f s) := by
  obtain ⟨g, hrow, hg⟩ := h.exists_row
  rw [hrow, whenLive hlive, hg s hcandidate]

theorem AfterMissedRow.exec_dead {row : Instr} {recessives rest : Nat} {f : State → State} (h : AfterMissedRow p row recessives rest f)
    (hdead : s.phase = .inReset ∨ (s.port p).mode.isOpen = false) : exec row s = .next s := by
  obtain ⟨g, hrow, -⟩ := h.exists_row
  rw [hrow, whenDead g hdead]

theorem afterMissedRow_candidateStartBit (p : Port) (recessives rest : Nat) :
    AfterMissedRow p (.candidateStartBit ⟨p, recessives, rest⟩) recessives rest (startRow p recessives) := by
  refine ⟨_, fun s => rfl, fun s hcandidate => ?_⟩
  dsimp only
  rw [hcandidate, startRow, if_neg (by simp)]
  split <;> rfl

theorem startOutcome_dropped_iff (x y z : Level) : startOutcome x y z = .dropped ↔ [x, y, z].count .dominant ≤ 1 := by
  cases x <;> cases y <;> cases z <;> decide

theorem afterMissedRow_falseStart (p : Port) {x y z : Level} (h : [x, y, z].count .dominant ≤ 1) :
    AfterMissedRow p (.falseStart p x y z) 2 0 (falseStart p [x, y, z]) :=
  ⟨_, fun _ => rfl, fun _ _ => if_pos ((startOutcome_dropped_iff x y z).2 h)⟩

theorem afterMissedRow_delivered (p : Port) (c : Character) (rival : Option Rival) :
    AfterMissedRow p (.characterReceived p (.delivered c) rival) 2 0 (receiveCharacter p c (nominalSamples c) (takeRival p rival)) :=
  ⟨_, fun _ => rfl, fun _ _ => rfl⟩

theorem exec_candidateStartBit_within (recessives rest : Nat) (hlive : Live s p) (h : (s.port p).candidate ≠ none) :
    exec (.candidateStartBit ⟨p, recessives, rest⟩) s = .next s := by
  refine (whenLive hlive _).trans (congrArg _ (if_pos ?_))
  exact Option.isSome_iff_ne_none.2 h

/-! ## A missed idle gap comes first (R5, R6) -/

/-- A row that overwrites the line does the same after gaps of different lengths. -/
theorem startRow_idleGap (recessives m n : Nat) : startRow p recessives (idleGap p m s) = startRow p recessives (idleGap p n s) := by
  obtain ⟨u, y, began, h⟩ := exists_gapped p s
  rw [h.eq, h.eq]
  unfold startRow
  split
  · unfold candidateStartBit
    rw [State.port_setPort_same, State.port_setPort_same, State.setPort_setPort, State.setPort_setPort]
    rfl
  · have hpass (k : Nat) : passOver p recessives (u.setPort p (y.withLine ((LineView.idleFor s.clock k).afterGap began)))
        = u.setPort p (y.withLine (LineView.dominantFor u.clock 1)) := by
      unfold passOver
      rw [State.port_setPort_same, State.setPort_setPort]
      cases began <;> rfl
    rw [hpass, hpass]

theorem falseStart_idleGap (samples : List Level) (m n : Nat) : falseStart p samples (idleGap p m s) = falseStart p samples (idleGap p n s) := by
  obtain ⟨u, y, began, h⟩ := exists_gapped p s
  rw [h.eq, h.eq]
  unfold falseStart
  rw [State.port_setPort_same, State.port_setPort_same, State.setPort_setPort, State.setPort_setPort]
  rfl

theorem AfterMissedRow.gap {row : Instr} {recessives rest : Nat} {f : State → State} (h : AfterMissedRow p row recessives rest f)
    (hsame : ∀ m n, f (idleGap p m s) = f (idleGap p n s)) (hlive : Live s p) (hcandidate : (s.port p).candidate = none)
    (hrun : ∀ n, RunEndedBefore s p recessives n → n < 88) (hmissed : GapMissed s p rest) (samples : Nat) :
    exec row s = exec row (idleGap p samples s) := by
  obtain ⟨u, y, began, hgapped⟩ := exists_gapped p s
  have hcleared := hgapped.cleared hlive samples
  rw [h.exec_live hlive hcandidate, h.exec_live hcleared.live hcleared.candidate, hcleared.afterMissed,
    afterMissed_gap hlive hcandidate hrun hmissed, hsame 96 samples]

/-- A gap takes the rest of a port's line as the row tells it, and nothing of its run (R6). -/
theorem idleGap_withRun (run : Option Measure) (samples : Nat) : idleGap p samples (s.withRun p run) = idleGap p samples s := by
  have hport : (s.withRun p run).port p = { s.port p with line := { (s.port p).line with run := run } } := State.port_setPort_same ..
  rw [idleGap, idleGap, hport]
  exact congrArg (fun t => gapAtTransmitter p (gapAtReceiver p t)) (State.setPort_setPort ..)

/-- The row of a missed gap with the run dropped that a row tells has ended (R6, R10). -/
theorem exec_idleGap_withoutRun {told : Nat} (hlive : Live s p) (hmissed : GapMissed s p told) :
    ∃ samples, exec (.idleGap ⟨p, 96⟩) (s.withRun p none) = .next (idleGap p samples s) := by
  have hport : (s.withRun p none).port p = { s.port p with line := { (s.port p).line with run := none } } := State.port_setPort_same ..
  obtain ⟨hs, hopen⟩ := hlive
  obtain ⟨-, hdriving, -⟩ := hmissed
  have hexec := exec_idleGap (s := s.withRun p none) (samples := 96) ⟨hs, by rw [hport]; exact hopen⟩ (by rw [hport]; exact hdriving)
    (.inl (le_refl _)) fun _ hn => absurd hn (runEnded_of_run (by rw [hport]))
  exact ⟨_, hexec.trans (congrArg _ (idleGap_withRun none _))⟩

/-- A missed gap that no row tells of is one on a line known to be recessive (R5). -/
theorem run_of_gapMissed (h : GapMissed s p 0) : (s.port p).line.run = none := by
  obtain ⟨-, -, htold | ⟨hrun, -⟩⟩ := h
  · omega
  · exact hrun

/-! ## A missed run comes first (R10) -/

theorem missedRun_before {recessives n : Nat} (h : RunEndedBefore s p recessives n) : (s.port p).missedRun (s.clock - 1) recessives = n :=
  missedRun_eq (s := { s with clock := s.clock - 1 }) h

theorem AfterMissedRow.run {row : Instr} {recessives rest n : Nat} {f : State → State} (h : AfterMissedRow p row recessives rest f)
    (hlive : Live s p) (hended : RunEndedBefore s p recessives n) (hlong : 88 ≤ n) :
    exec row s = exec row (takeMissedRun p (s.clock - 1) recessives s) := by
  obtain ⟨-, hcandidate, -, hstuck, -⟩ := id hended
  obtain ⟨hv, -⟩ := takeMissedRun_class hlive hstuck (missedRun_before hended) hlong
  rw [h.exec_live hlive hcandidate, afterMissed]
  generalize takeMissedRun p (s.clock - 1) recessives s = v at hv
  rcases hv with hdead | htaken
  · rw [h.exec_dead hdead, onLivePort_dead _ hdead]
  rcases live_or_dead p v with hlivev | hdead
  · rw [h.exec_live hlivev htaken.candidate, afterMissed, takeMissedRun_none (by rw [htaken.run]; omega)]
  · rw [h.exec_dead hdead, onLivePort_dead _ hdead]

theorem exec_idleGap_run {samples n : Nat} (hlive : Live s p) (hlow : 96 ≤ samples) (hdriving : (s.port p).tx.driving = false)
    (hended : RunEnded s p samples n) (hlong : 88 ≤ n) :
    exec (.idleGap ⟨p, samples⟩) s = exec (.idleGap ⟨p, samples⟩) (takeMissedRun p s.clock samples s) := by
  obtain ⟨-, -, hrest, hstuck, -⟩ := id hended
  obtain ⟨hv, -⟩ := takeMissedRun_class hlive hstuck (missedRun_eq hended) hlong
  have hquiet := staysQuiet_takeMissedRun p s.clock samples s hdriving
  have hlength : (s.port p).restLength s.clock samples = samples := by rw [LinePort.restLength, hrest]; rfl
  have hleft : exec (.idleGap ⟨p, samples⟩) s = .next (onLivePort p (idleGap p samples) (takeMissedRun p s.clock samples s)) := by
    refine (whenLive hlive _).trans (congrArg _ ?_)
    dsimp only
    rw [hlength, if_pos ⟨hlow, hdriving⟩]
  rw [hleft]
  generalize takeMissedRun p s.clock samples s = v at hv hquiet
  have hdeadRow (hdead : v.phase = .inReset ∨ (v.port p).mode.isOpen = false) :
      Host.Outcome.next (onLivePort p (idleGap p samples) v) = exec (.idleGap ⟨p, samples⟩) v :=
    (congrArg Host.Outcome.next (onLivePort_dead _ hdead)).trans (whenDead _ hdead).symm
  rcases hv with hdead | htaken
  · exact hdeadRow hdead
  rcases live_or_dead p v with hlivev | hdead
  · refine ((whenLive hlivev _).trans (congrArg _ ?_)).symm
    dsimp only
    rw [htaken.rest, if_pos ⟨hlow, hquiet⟩, takeMissedRun_none (by rw [htaken.run]; omega)]
  · exact hdeadRow hdead

end Rows

end Sys2Proof.Machine
end

section
/-! SUPPORT. The line's measurements before and after a character (R5, R6, R10, R14, R15, R18, R30). -/

namespace Sys2Proof.Machine

/-! ## A character after an idle gap (R5, R14) -/

section AfterGap
variable {p : Port}

/-- A character that is no part of a telegram in reception is received the same whatever was measured of the line. -/
theorem deliver_withLine (c : Character) (start : StartBit) (between : State → State) (u : State) {x : LinePort} (hrx : x.rx.buffer = none) :
    ∃ (w : State) (z : LinePort), w.phase = u.phase ∧ z.mode = x.mode
      ∧ ∀ line, deliverCharacter p c start between (u.setPort p (x.withLine line)) = w.setPort p (z.withLine line) := by
  have hport (line : LineView) : (u.setPort p (x.withLine line)).port p = x.withLine line := State.port_setPort_same ..
  have hlistening (hrx : x.rx = .search ∨ x.rx = .skip) : ∃ (w : State) (z : LinePort), w.phase = u.phase ∧ z.mode = x.mode
      ∧ ∀ line, deliverCharacter p c start between (u.setPort p (x.withLine line)) = w.setPort p (z.withLine line) := by
    by_cases hheader : c.mark = true ∧ c.framing = false
    · obtain ⟨hmark, hframing⟩ := hheader
      have htake (line : LineView) := deliver_header (s := u.setPort p (x.withLine line)) (start := start) (between := between)
        (by rw [hport]; exact hrx) hmark hframing
      cases hfree : u.freeIndex with
      | some i =>
        refine ⟨u.setBuffer i ⟨.filling p, ⟨c.data, 0, 0, []⟩⟩, x.withRx (.filling (headerTaken i c x start)), rfl, rfl, fun line => ?_⟩
        exact (htake line).trans (takeHeader_setPort hfree c start)
      | none =>
        refine ⟨u, (x.counted .rxNoBuffer).withRx .skip, rfl, rfl, fun line => (htake line).trans ?_⟩
        rw [takeHeader_none (s := u.setPort p (x.withLine line)) hfree, hport, State.setPort_setPort]
        rfl
    · have hstray := stray_of_not_header hheader
      refine ⟨u, x.withRx .skip, rfl, rfl, fun line => ?_⟩
      rw [deliver_stray (by rw [hport]; exact hrx) hstray, hport, State.setPort_setPort]
      rfl
  cases h : x.rx with
  | search => exact hlistening (.inl h)
  | skip => exact hlistening (.inr h)
  | deaf =>
    refine ⟨u, x, rfl, rfl, fun line => ?_⟩
    unfold deliverCharacter
    rw [hport, show (x.withLine line).rx = .deaf from h]
  | filling r =>
    rw [h] at hrx
    cases hrx

/-- Without a candidate the line after a character is told by its samples alone (R18). -/
theorem lineAfterCharacter_withLine {x : LinePort} (h : x.candidate = none) (line : LineView) (now : Nat) (samples : List Level) :
    lineAfterCharacter (x.withLine line) now samples = lineAfterCharacter x now samples := by
  have hnone : (x.withLine line).candidate = none := h
  simp only [lineAfterCharacter, hnone, h, Option.isSome_none, Bool.false_eq_true, and_false, if_false]
  rfl

theorem receiveCharacter_idleGap {s : State} (hlive : Live s p) (c : Character) (samples : List Level) (between : State → State) (m n : Nat) :
    receiveCharacter p c samples between (idleGap p m s) = receiveCharacter p c samples between (idleGap p n s) := by
  obtain ⟨u, y, began, h⟩ := exists_gapped p s
  obtain ⟨-, hphase, -⟩ := onlyLine_iff.1 h.line
  obtain ⟨w, z, hwphase, hzmode, hdeliver⟩ := deliver_withLine (p := p) c (startBitOf y u.clock) between u h.rx
  have hreceive (line : LineView) : receiveCharacter p c samples between (u.setPort p (y.withLine line))
      = w.setPort p (z.passed (lineAfterCharacter y u.clock samples) (nextCharacter w z.tx)) := by
    have hd : deliverCharacter p c (startBitOf ((u.setPort p (y.withLine line)).port p) (u.setPort p (y.withLine line)).clock) between
        (u.setPort p (y.withLine line)) = w.setPort p (z.withLine line) := by
      rw [← hdeliver, State.port_setPort_same]
      rfl
    rw [receiveCharacter_live hd (hwphase.trans (hphase.trans hlive.1))
      (by show z.mode.isOpen = true; rw [hzmode, h.mode]; exact hlive.2), State.port_setPort_same,
      lineAfterCharacter_withLine h.candidate]
    rfl
  rw [h.eq, h.eq, hreceive, hreceive]

/-- A row of samples decides a character only where start search finds its start bit: after two recessive samples (R14). -/
theorem two_le_of_characterOfSamples {row : Nat} {levels : List Level} {c : Character}
    (h : characterOfSamples (.searching row) levels = some c) : 2 ≤ row := by
  by_contra hlt
  cases levels with
  | nil => cases h
  | cons level rest =>
    have hsample : takeSample (.searching row) level = (.searching (recessiveRow row level), none) := if_neg fun hfound => hlt hfound.2
    unfold characterOfSamples at h
    rw [hsample] at h
    cases h

/-- The samples that decide a character before an idle gap is taken decide it after (R5, R14). -/
theorem character_idleGap {s : State} {reception : Reception} {c : Character} {samples : Nat} (hsamples : 96 ≤ samples)
    (hcandidate : (s.port p).candidate = none) (hc : Reception.character (s.port p) s.clock reception = some c) :
    Reception.character ((idleGap p samples s).port p) (idleGap p samples s).clock reception = some c
      ∧ Reception.samples ((idleGap p samples s).port p) reception = Reception.samples (s.port p) reception := by
  obtain ⟨u, y, began, h⟩ := exists_gapped p s
  obtain ⟨-, -, hclock, -⟩ := onlyLine_iff.1 h.line
  rw [h.eq, State.port_setPort_same, State.setPort_clock, hclock]
  cases reception with
  | delivered d => exact ⟨hc, rfl⟩
  | sampled levels =>
    have hnone : (y.withLine ((LineView.idleFor s.clock samples).afterGap began)).candidate = none := h.candidate
    have hstate : (s.port p).sampleState s.clock = .searching (min 2 ((s.port p).searchLength (s.clock - 1) 0)) := by
      rw [LinePort.sampleState, hcandidate]
    have htwo : 2 ≤ min 2 ((s.port p).searchLength (s.clock - 1) 0) := two_le_of_characterOfSamples (by rw [← hstate]; exact hc)
    have hsearch : 2 ≤ (y.withLine ((LineView.idleFor s.clock samples).afterGap began)).searchLength (s.clock - 1) 0 := by
      have hmeasured : (y.withLine ((LineView.idleFor s.clock samples).afterGap began)).line.search = some ⟨s.clock, samples⟩ := by
        cases began <;> rfl
      rw [LinePort.searchLength, hmeasured]
      exact le_max_of_le_right ((by omega : 2 ≤ samples).trans (Nat.le_add_right ..))
    refine ⟨?_, ?_⟩
    · rw [← hc]
      simp only [Reception.character]
      rw [hstate, LinePort.sampleState, hnone]
      dsimp only
      rw [Nat.min_eq_left hsearch, Nat.le_antisymm (Nat.min_le_left ..) htwo]
    · simp only [Reception.samples, hnone, hcandidate]

/-- A missed gap comes before a character (R5). -/
theorem exec_character_gap {s : State} {reception : Reception} {rival : Option Rival} {c : Character} (hlive : Live s p)
    (hc : Reception.character (s.port p) s.clock reception = some c) (hcandidate : (s.port p).candidate = none) (hmissed : GapMissed s p 0) :
    exec (.characterReceived p reception rival) s = execAll [.idleGap ⟨p, 96⟩, .characterReceived p reception rival] s := by
  have hrun := run_of_gapMissed hmissed
  obtain ⟨samples, hle, hgap⟩ := exec_idleGap_missed hlive hmissed hrun
  obtain ⟨u, y, began, hgapped⟩ := exists_gapped p s
  have hcleared := hgapped.cleared hlive samples
  obtain ⟨hc', hsamples⟩ := character_idleGap hle hcandidate hc
  have hleft : exec (.characterReceived p reception rival) s
      = .next (receiveCharacter p c (Reception.samples (s.port p) reception) (takeRival p rival) (idleGap p 96 s)) := by
    refine (whenLive hlive _).trans (congrArg _ ?_)
    rw [hc]
    exact afterMissed_gap hlive hcandidate (fun _ hn => absurd hn (runEnded_of_run (s := { s with clock := s.clock - 1 }) hrun)) hmissed
  have hright : exec (.characterReceived p reception rival) (idleGap p samples s)
      = .next (receiveCharacter p c (Reception.samples (s.port p) reception) (takeRival p rival) (idleGap p samples s)) := by
    refine (whenLive hcleared.live _).trans (congrArg _ ?_)
    rw [hc', hsamples]
    exact hcleared.afterMissed ..
  rw [execAll_cons hgap, execAll_one, hleft, hright, receiveCharacter_idleGap hlive]

end AfterGap

/-! ## A port is live through a character that nothing comes before (R18, R25, R30) -/

/-- A live port stays live. -/
structure StaysLive (p : Port) (s t : State) : Prop where
  live : Live s p → Live t p

section Character
variable {p : Port}

theorem StaysLive.refl (p : Port) (s : State) : StaysLive p s s := ⟨id⟩

theorem StaysLive.trans {s t u : State} (h : StaysLive p s t) (k : StaysLive p t u) : StaysLive p s u := ⟨fun hs => k.live (h.live hs)⟩

theorem staysLive_of_mode {s t : State} (hphase : t.phase = s.phase) (hmode : (t.port p).mode.isOpen = (s.port p).mode.isOpen) :
    StaysLive p s t :=
  ⟨fun ⟨hs, hopen⟩ => ⟨hphase.trans hs, hmode.trans hopen⟩⟩

theorem staysLive_setPort {s u : State} {y : LinePort} (hphase : u.phase = s.phase) (hmode : y.mode.isOpen = (s.port p).mode.isOpen) :
    StaysLive p s (u.setPort p y) := staysLive_of_mode hphase (by rw [State.port_setPort_same]; exact hmode)

theorem staysLive_abortReception (k : CounterName) (hk : k ≠ .faults) (next : RxState) (s : State) :
    StaysLive p s (abortReception p k next s) := by
  obtain ⟨-, hphase, -⟩ := onlyLine_iff.1 (onlyLine_abortReception p k next s)
  exact staysLive_of_mode hphase (congrArg _ (sameSupervision_abortReception hk p next s).1)

theorem staysLive_echoVerdict (k : CounterName) (s : State) : StaysLive p s (echoVerdict p (some k) s) := by
  obtain ⟨-, hphase, -⟩ := onlyLine_iff.1 (onlyLine_echoVerdict p (some k) s)
  refine staysLive_of_mode hphase ?_
  rw [← State.setPort_port s p]
  by_cases hsettled : ∃ a, (s.port p).tx.attempt = some a ∧ a.completed = true
  · obtain ⟨a, ha, hc⟩ := hsettled
    rw [echoVerdict_counted ha hc, State.port_setPort_same, State.port_setPort_same]
    rfl
  · rw [echoVerdict_ignored fun a ha => Bool.eq_false_iff.2 fun hc => hsettled ⟨a, ha, hc⟩]

theorem staysLive_takeHeader (c : Character) (start : StartBit) (s : State) : StaysLive p s (takeHeader p c start s) := by
  cases hfree : s.freeIndex with
  | some i =>
    rw [takeHeader_some hfree]
    exact staysLive_setPort rfl rfl
  | none =>
    rw [takeHeader_none hfree]
    exact staysLive_setPort rfl rfl

theorem staysLive_completeTelegram (r : RxRecord) (received : Check) (s : State) : StaysLive p s (completeTelegram p r received s) := by
  have hreported : (((s.port p).withRx .search).reported).mode.isOpen = (s.port p).mode.isOpen := afterReport_isOpen _
  by_cases hgood : r.crc = received
  · by_cases hown : r.own = true
    · have hset : StaysLive p s ((endProbation p (s.setPort p ((s.port p).withRx .search))).freeBuffer r.buffer) := by
        rw [endProbation_setPort, freeBuffer_setPort]
        exact staysLive_setPort rfl hreported
      rw [completeTelegram]
      dsimp only
      rw [if_pos hgood, if_pos hown]
      exact hset.trans (staysLive_echoVerdict ..)
    · have hown' := Bool.eq_false_iff.2 hown
      by_cases hdropped : r.noise = true ∧ (s.port p).profile.noise = .drop
      · rw [completeTelegram_dropped hown' hgood hdropped]
        exact staysLive_setPort rfl hreported
      · rw [completeTelegram_accepted hown' hgood hdropped]
        exact staysLive_setPort rfl hreported
  · by_cases hown : r.own = true
    · have hset : StaysLive p s ((s.setPort p ((s.port p).withRx .search)).freeBuffer r.buffer) := by
        rw [freeBuffer_setPort]
        exact staysLive_setPort rfl rfl
      rw [completeTelegram]
      dsimp only
      rw [if_neg hgood, if_pos hown]
      exact hset.trans (staysLive_echoVerdict ..)
    · rw [completeTelegram_bad (Bool.eq_false_iff.2 hown) hgood]
      exact staysLive_setPort rfl rfl

theorem staysLive_storeCharacter (r : RxRecord) (c : Character) (s : State) : StaysLive p s (storeCharacter p r c s) := by
  rw [storeCharacter_eq]
  split
  · exact staysLive_completeTelegram ..
  split
  · exact staysLive_setPort rfl rfl
  · exact staysLive_setPort rfl rfl

theorem staysLive_deliverCharacter (c : Character) (start : StartBit) {between : State → State} {s : State}
    (hbetween : ∀ u, OnlyLine p s u → StaysLive p u (between u)) : StaysLive p s (deliverCharacter p c start between s) := by
  have hlistening (hrx : (s.port p).rx = .search ∨ (s.port p).rx = .skip) : StaysLive p s (deliverCharacter p c start between s) := by
    by_cases hheader : c.mark = true ∧ c.framing = false
    · rw [deliver_header hrx hheader.1 hheader.2]
      exact staysLive_takeHeader ..
    · rw [deliver_stray hrx (stray_of_not_header hheader)]
      exact staysLive_setPort rfl rfl
  cases hrx : (s.port p).rx with
  | search => exact hlistening (.inl hrx)
  | skip => exact hlistening (.inr hrx)
  | deaf =>
    unfold deliverCharacter
    rw [hrx]
    exact .refl p s
  | filling r =>
    cases hframing : c.framing with
    | true =>
      rw [deliver_framing hrx hframing]
      exact staysLive_abortReception _ (by decide) _ _
    | false =>
      cases hmark : c.mark with
      | false =>
        rw [deliver_store hrx hmark hframing]
        exact staysLive_storeCharacter ..
      | true =>
        rw [deliver_mark hrx hmark hframing]
        have habort : StaysLive p s (abortReception p .rxBroken .search s) := staysLive_abortReception _ (by decide) _ _
        refine ⟨fun hlive => ?_⟩
        have hlive' := (habort.trans (hbetween _ (onlyLine_abortReception ..))).live hlive
        rw [onLivePort_live hlive'.1 hlive'.2]
        exact (staysLive_takeHeader c start _).live hlive'

/-- A character that leaves its port live makes of it what its line and its samples tell (R18, R40). -/
theorem receiveCharacter_port {s : State} {c : Character} {samples : List Level} {between : State → State}
    (h : Live (deliverCharacter p c (startBitOf (s.port p) s.clock) between s) p) :
    ∃ (u : State) (y : LinePort), receiveCharacter p c samples between s = u.setPort p (y.passed (lineAfterCharacter (s.port p) s.clock samples)
      (nextCharacter u y.tx)) ∧ Live u p ∧ u.port p = y := by
  refine ⟨deliverCharacter p c (startBitOf (s.port p) s.clock) between s, _, ?_, h, rfl⟩
  rw [receiveCharacter, onLivePort_live h.1 h.2]
  rfl

theorem staysLive_receiveCharacter (c : Character) (samples : List Level) (s : State) : StaysLive p s (receiveCharacter p c samples id s) := by
  refine ⟨fun hlive => ?_⟩
  have hdeliver := staysLive_deliverCharacter (p := p) c (startBitOf (s.port p) s.clock) (between := id) (s := s) fun u _ => .refl p u
  obtain ⟨u, y, heq, hu, rfl⟩ := receiveCharacter_port (samples := samples) (hdeliver.live hlive)
  rw [heq]
  exact (staysLive_setPort (y := (u.port p).passed _ _) rfl rfl).live hu

/-- A rival's character, with nothing first at its port either, leaves the port live (R30). -/
theorem staysLive_takeRival {rival : Option Rival} {u : State} (hfirst : ∀ r, rival = some r → r.port ≠ p → NothingFirst u r.port) :
    StaysLive p u (takeRival p rival u) := by
  cases rival with
  | none => exact .refl p u
  | some r =>
    by_cases hq : r.port = p
    · rw [takeRival, if_pos hq]
      exact .refl p u
    · rcases live_or_dead r.port u with hlive | hdead
      · have hq' : p ≠ r.port := fun h => hq h.symm
        have htake : takeRival p (some r) u = receiveCharacter r.port r.char (nominalSamples r.char) id u :=
          takeRival_live hq hlive (hfirst r rfl hq)
        have hstays := (staysLive_receiveCharacter r.char (nominalSamples r.char) u).live hlive
        rw [htake]
        rcases othersKept_receiveCharacter r.port r.char (nominalSamples r.char) u with hreset | hkept
        · exact absurd (hstays.1.symm.trans hreset) (by simp)
        · exact ⟨fun hp => ⟨hstays.1, by rw [hkept p hq']; exact hp.2⟩⟩
      · rw [takeRival, if_neg hq, onLivePort_dead _ hdead]
        exact .refl p u

end Character

end Sys2Proof.Machine
end

section
/-! SUPPORT. What start search finds and the line's measurements (R5 to R7, R10, R11, R14, R15, R18). -/

namespace Sys2Proof.Machine

section Clauses
variable {s : State} {p : Port}

/-- A candidate's row with no break before it (R5, R6, R14). -/
theorem candidateStartBit_noBreakFirst (hlive : Live s p) {recessives rest : Nat} (hcandidate : (s.port p).candidate = none)
    (hrun : ∀ n, RunEndedBefore s p recessives n → n < 88) (hmissed : ¬ GapMissed s p rest) :
    exec (.candidateStartBit ⟨p, recessives, rest⟩) s = .next (startRow p recessives s) := by
  rw [(afterMissedRow_candidateStartBit p recessives rest).exec_live hlive hcandidate, afterMissed_nothing hlive hmissed hrun]

theorem passOver_begins {recessives : Nat} (h : recessives = 1 ∨ (recessives = 0 ∧ (s.port p).line.run = none)) :
    passOver p recessives s = s.setPort p { s.port p with line := ⟨false, none, some ⟨s.clock, 1⟩, none, false⟩ } := by
  unfold passOver
  dsimp only
  rcases h with rfl | ⟨rfl, hnone⟩
  · cases hrun : (s.port p).line.run with
    | none => rfl
    | some k => exact congrArg (fun line => s.setPort p { s.port p with line := line }) (if_neg (by decide))
  · rw [hnone]
    rfl

theorem passOver_continues (h : (s.port p).line.run ≠ none) :
    passOver p 0 s = s.setPort p { s.port p with line := { (s.port p).line with idle := false, rest := none, search := none } } := by
  obtain ⟨k, hk⟩ := Option.ne_none_iff_exists'.1 h
  unfold passOver
  dsimp only
  rw [hk]
  dsimp only
  rw [if_pos rfl]

/-- A gap that a candidate's row tells of is taken by the gap's own row first (R5, R6). -/
theorem candidateStartBit_gap (hlive : Live s p) {recessives rest : Nat} (hcandidate : (s.port p).candidate = none)
    (hrun : ∀ n, RunEndedBefore s p recessives n → n < 88) (hmissed : GapMissed s p rest) :
    exec (.candidateStartBit ⟨p, recessives, rest⟩) s
      = execAll [.idleGap ⟨p, 96⟩, .candidateStartBit ⟨p, recessives, rest⟩] (s.withRun p none) := by
  obtain ⟨samples, hgap⟩ := exec_idleGap_withoutRun hlive hmissed
  rw [execAll_cons hgap, execAll_one]
  exact (afterMissedRow_candidateStartBit p recessives rest).gap (startRow_idleGap recessives) hlive hcandidate hrun hmissed samples

/-- The line after a false start, by its three samples (R6, R15). -/
theorem lineAfterFalseStart_eq (now : Nat) : ∀ {x y z : Level}, [x, y, z].count .dominant ≤ 1 → lineAfterFalseStart now [x, y, z]
      = if z = .dominant then ⟨false, none, some ⟨now, 1⟩, none, false⟩
        else ⟨false, some ⟨now, if y = .dominant then 1 else if x = .dominant then 2 else 3⟩, none,
          some ⟨now, if y = .dominant then 1 else if x = .dominant then 2 else 3⟩, false⟩
  | .recessive, .recessive, .recessive, _ => rfl
  | .dominant, .recessive, .recessive, _ => rfl
  | .recessive, .dominant, .recessive, _ => rfl
  | .recessive, .recessive, .dominant, _ => rfl
  | .dominant, .dominant, .recessive, h => absurd h (by decide)
  | .dominant, .recessive, .dominant, h => absurd h (by decide)
  | .recessive, .dominant, .dominant, h => absurd h (by decide)
  | .dominant, .dominant, .dominant, h => absurd h (by decide)

theorem falseStart_nothingFirst (hlive : Live s p) {x y z : Level} (h : [x, y, z].count .dominant ≤ 1) (hfirst : NothingFirst s p) :
    exec (.falseStart p x y z) s = .next (falseStart p [x, y, z] s) := by
  refine (whenLive hlive _).trans (congrArg _ ?_)
  rw [if_pos ((startOutcome_dropped_iff x y z).2 h)]
  exact afterMissed_nothingFirst hlive hfirst

theorem falseStart_gap (hlive : Live s p) {x y z : Level} (h : [x, y, z].count .dominant ≤ 1) (hcandidate : (s.port p).candidate = none)
    (hmissed : GapMissed s p 0) : exec (.falseStart p x y z) s = execAll [.idleGap ⟨p, 96⟩, .falseStart p x y z] s := by
  have hrun := run_of_gapMissed hmissed
  obtain ⟨samples, -, hgap⟩ := exec_idleGap_missed hlive hmissed hrun
  rw [execAll_cons hgap, execAll_one]
  exact (afterMissedRow_falseStart p h).gap (falseStart_idleGap [x, y, z]) hlive hcandidate
    (fun _ hn => absurd hn (runEnded_of_run (s := { s with clock := s.clock - 1 }) hrun)) hmissed samples

/-- A row before which a run of 11 or more bit times ended: the row of the run's class comes first (R10, R11). -/
theorem exec_run_first {row : Instr} {upTo recessives n : Nat} (hlive : Live s p) (hstuck : (s.port p).line.stuck = false)
    (hmissed : (s.port p).missedRun upTo recessives = n) (hrow : 88 ≤ n → exec row s = exec row (takeMissedRun p upTo recessives s)) :
    let u := s.withRun p (some ⟨s.clock, n⟩)
    (88 ≤ n → n < 512 → exec row s = execAll [.shortBreak p n, row] u)
      ∧ (512 ≤ n → n < 2048 → exec row s = execAll [.longBreak p n, row] u)
      ∧ (2048 ≤ n → exec row s = execAll [.stuckLine ⟨p, n⟩ .blocksFirst, row] u) := by
  intro u
  have hclass (h : 88 ≤ n) := takeMissedRun_class hlive hstuck hmissed h
  refine ⟨fun h h' => ?_, fun h h' => ?_, fun h => ?_⟩
  · obtain ⟨-, hshort, -⟩ := hclass h
    rw [execAll_cons (hshort h'), execAll_one, hrow h]
  · obtain ⟨-, -, hbroken, -⟩ := hclass (by omega)
    rw [execAll_cons (hbroken h h'), execAll_one, hrow (by omega)]
  · obtain ⟨-, -, -, hdeclared⟩ := hclass (by omega)
    rw [execAll_cons (hdeclared h), execAll_one, hrow (by omega)]

theorem AfterMissedRow.run_first {row : Instr} {recessives rest n : Nat} {f : State → State} (h : AfterMissedRow p row recessives rest f)
    (hlive : Live s p) (hended : RunEndedBefore s p recessives n) :
    let u := s.withRun p (some ⟨s.clock, n⟩)
    (88 ≤ n → n < 512 → exec row s = execAll [.shortBreak p n, row] u)
      ∧ (512 ≤ n → n < 2048 → exec row s = execAll [.longBreak p n, row] u)
      ∧ (2048 ≤ n → exec row s = execAll [.stuckLine ⟨p, n⟩ .blocksFirst, row] u) := by
  obtain ⟨-, -, -, hstuck, -⟩ := id hended
  exact exec_run_first hlive hstuck (missedRun_before hended) fun hlong => h.run hlive hended hlong

/-- The line after a framing error: the run of the stop bit (R10, R18). -/
theorem lineAfterCharacter_framing (x : LinePort) (now : Nat) {c : Character} (h : c.framing = true) :
    ∃ n, 6 ≤ n ∧ (c.data.getLsbD 0 = true → n = 6)
      ∧ lineAfterCharacter x now (nominalSamples c) = ⟨false, none, some ⟨now, n⟩, none, false⟩ := by
  have hrests : trailing .recessive (nominalSamples c) = 0 := by
    rw [nominalSamples_eq, h]
    exact trailing_append_other (x := .recessive) (y := .dominant) (by simp) _ 5
  have hruns : trailing .dominant (nominalSamples c)
      = 6 + trailing .dominant (samplesBefore c ++ List.replicate 8 (levelOf (c.data.getLsbD 0))) := by
    rw [nominalSamples_eq, h]
    exact trailing_append_replicate ..
  have hsix (hbit : c.data.getLsbD 0 = true) : trailing .dominant (nominalSamples c) = 6 := by
    rw [hruns, hbit]
    exact congrArg (6 + ·) (trailing_append_other (x := .dominant) (y := .recessive) (by simp) _ 7)
  have hlength : 8 ≤ (nominalSamples c).length - 6 := by
    rw [nominalSamples_eq]
    simp
  unfold lineAfterCharacter
  dsimp only
  rw [hrests, if_neg (by omega)]
  split
  · next hall =>
    obtain ⟨hall, -⟩ := hall
    refine ⟨x.runLength now (trailing .dominant (nominalSamples c)), ?_, fun hbit => ?_, rfl⟩
    · have hle : trailing .dominant (nominalSamples c) ≤ x.runLength now (trailing .dominant (nominalSamples c)) := by
        rw [LinePort.runLength]
        cases x.line.run with
        | none => exact le_refl _
        | some k => exact le_max_left ..
      omega
    · rw [hsix hbit] at hall
      omega
  · exact ⟨_, by omega, hsix, rfl⟩

theorem passed_fields (x : LinePort) (line : LineView) (tx : TxState) :
    (x.passed line tx).candidate = none ∧ (x.passed line tx).line = line := ⟨rfl, rfl⟩

/-- A delivered character with nothing first at its port and at the rival's (R18, R30). -/
theorem exec_delivered_line (hlive : Live s p) (c : Character) (rival : Option Rival) (hfirst : NothingFirst s p)
    (hrival : ∀ r, rival = some r → NothingFirst s r.port) :
    ∃ t, exec (.characterReceived p (.delivered c) rival) s = .next t ∧ (t.port p).candidate = none
      ∧ (t.port p).line = lineAfterCharacter (s.port p) s.clock (nominalSamples c) := by
  have hbetween (u : State) (hu : OnlyLine p s u) : StaysLive p u (takeRival p rival u) := by
    obtain ⟨hports, -, hclock, -⟩ := onlyLine_iff.1 hu
    exact staysLive_takeRival fun r hr hq => nothingFirst_congr (hports _ hq) hclock (hrival r hr)
  have hdeliver := (staysLive_deliverCharacter (p := p) c (startBitOf (s.port p) s.clock) hbetween).live hlive
  obtain ⟨u, y, heq, -⟩ := receiveCharacter_port (samples := nominalSamples c) hdeliver
  have hexec : exec (.characterReceived p (.delivered c) rival) s = .next (receiveCharacter p c (nominalSamples c) (takeRival p rival) s) :=
    exec_character hlive hfirst rfl
  rw [hexec, heq]
  refine ⟨_, rfl, ?_⟩
  rw [State.port_setPort_same]
  exact passed_fields ..

end Clauses

/-- Settles O18: each row alone where nothing comes first, and otherwise after the gap's or the run's own row. -/
theorem lineMeasurements : Obligations.LineMeasurements := by
  intro s p hlive
  refine ⟨fun recessives rest => ?_, fun x y z hdropped => ?_, fun hstuck => ?_, fun reception rival c hc hcandidate hmissed =>
    exec_character_gap hlive hc hcandidate hmissed, fun row n hrow => ?_, fun c rival hfirst hrival => ?_⟩
  · intro row noBreakFirst
    refine ⟨exec_candidateStartBit_within recessives rest hlive, fun hcandidate hrun hmissed => ?_,
      fun hcandidate hrun hmissed => candidateStartBit_gap hlive hcandidate hrun hmissed⟩
    have hexec := candidateStartBit_noBreakFirst hlive hcandidate hrun hmissed
    refine ⟨fun h => hexec.trans ?_, fun h => hexec.trans ?_, fun h hrun' => hexec.trans ?_⟩
    · rw [startRow, if_pos h]
      rfl
    · rw [startRow, if_neg (by omega), passOver_begins h]
    · rw [startRow, if_neg (by omega), h, passOver_continues hrun']
  · intro rests
    refine ⟨fun hfirst => (falseStart_nothingFirst hlive hdropped hfirst).trans ?_,
      fun hcandidate hmissed => falseStart_gap hlive hdropped hcandidate hmissed⟩
    rw [falseStart, lineAfterFalseStart_eq _ hdropped]
  · exact (whenLive hlive (stuckRunEnd p)).trans (congrArg Host.Outcome.next (if_pos hstuck))
  · rcases hrow with ⟨recessives, rest, rfl, hended⟩ | ⟨⟨x, y, z, rfl, hdropped⟩, hended⟩ | ⟨⟨c, rival, rfl⟩, hended⟩
      | ⟨samples, rfl, hlow, hdriving, hended⟩
    · exact (afterMissedRow_candidateStartBit p recessives rest).run_first hlive hended
    · exact (afterMissedRow_falseStart p hdropped).run_first hlive hended
    · exact (afterMissedRow_delivered p c rival).run_first hlive hended
    · obtain ⟨-, -, -, hstuck, -⟩ := id hended
      exact exec_run_first hlive hstuck (missedRun_eq hended) fun hlong => exec_idleGap_run hlive hlow hdriving hended hlong
  · obtain ⟨t, hexec, hcandidate, hline⟩ := exec_delivered_line hlive c rival hfirst hrival
    refine ⟨t, hexec, hcandidate, fun hframing => ?_, fun hframing => ?_⟩
    · refine ⟨s.clock + 2 * (s.port p).profile.rate.sampleTicks, ?_, hline.trans (lineAfterCharacter_delivered _ _ hframing)⟩
      rw [Nat.add_sub_cancel_left, Nat.mul_assoc, BitRate.sampleTicks_hertz]
    · rw [hline]
      exact lineAfterCharacter_framing _ _ hframing

end Sys2Proof.Machine
end
